-- ==== Sys2Proof/Word.lean ====
section
/-! DEFINITION. The plain data the whole model is written over: a byte, a heater zone, and the two fixed-size
collections of the manual (one item per zone, one item per station number or band index). -/

namespace Sys2Proof

/-- One byte of a host frame or of a bank line frame (chapter 12). -/
abbrev Byte := BitVec 8

/-- The five heater zones of the tube, Z1 at the load end to Z5 at the source end (scope, Terms). -/
inductive ZoneId where
  | z1 | z2 | z3 | z4 | z5
deriving DecidableEq, Repr

/-- One item for each of the five zones. -/
structure PerZone (α : Type) where
  z1 : α
  z2 : α
  z3 : α
  z4 : α
  z5 : α
deriving DecidableEq, Repr

/-- One item for each of the eight station numbers (chapters 1 and 2) or band indices (R122). -/
structure PerEight (α : Type) where
  e0 : α
  e1 : α
  e2 : α
  e3 : α
  e4 : α
  e5 : α
  e6 : α
  e7 : α
deriving DecidableEq, Repr

/-- A station number, 0 to 7 (R16). -/
abbrev StationNo := Fin 8

end Sys2Proof
end

