-- ==== Sys2Proof/Syntax.lean ====
section
/-! DEFINITION. The commands of the block: one constructor per row of spec/opcode_table.json.
The part takes no instructions from a memory. What it takes are the host's transactions on the SPI port (R168), the
frames and transmission outcomes of the bank line (R17), the edges and levels of its pins, and the instants of its own
crystal and half-cycle time. A row that names a host command stands for the release of chip select that takes it
(R168, R171); its figures are not operands of the row but are read from the command buffer (R177), which the
BYTE_TIME rows fill. -/

namespace Sys2Proof

/-- A frame of the bank line as the CAN controller hands it over: 11-bit identifier, whether it is a remote frame, and
its data bytes in order, the first one being byte 1 (sections 2.2, 2.5 and 12.2). -/
structure CanFrame where
  identifier : BitVec 11
  remote     : Bool
  data       : List Byte
deriving DecidableEq, Repr

/-- The steps of the part, one constructor per row of spec/opcode_table.json, in the table's order. -/
inductive Instr where
  /-- HARD_RESET (R166): power-on or RESETn asserted; the operand is what the three station straps give (R16). -/
  | hardReset (straps : StationNo)
  /-- TRANSACTION_BEGIN (R168): the host asserts chip select. -/
  | transactionBegin
  /-- FRAME_ERROR (R169): chip select is released after a byte count other than 32. -/
  | frameError
  /-- UNKNOWN_COMMAND (R171): a 32-byte transaction whose code names no command. -/
  | unknownCommand
  /-- NOP (R170). -/
  | nop
  /-- SET_BANK (R159). -/
  | setBank
  /-- SET_ZONE (R70). -/
  | setZone
  /-- SET_GAS (R108). -/
  | setGas
  /-- SET_LOADER (R121). -/
  | setLoader
  /-- SET_BAND (R122). -/
  | setBand
  /-- START (R160, R161). -/
  | start
  /-- APPEND (R142). -/
  | append
  /-- AMEND (R146). -/
  | amend
  /-- URGENT (R148). -/
  | urgent
  /-- READ_STATUS (R172). -/
  | readStatus
  /-- READ_ZONE (R172). -/
  | readZone
  /-- READ_LOADER (R140). -/
  | readLoader
  /-- READ_PEER (R37, R38). -/
  | readPeer
  /-- READ_QUEUE (R158). -/
  | readQueue
  /-- READ_OUTCOME (R158). -/
  | readOutcome
  /-- CLEAR_REASONS (R174). -/
  | clearReasons
  /-- SET_MASK (R175). -/
  | setMask
  /-- SET_LOW_MARK (R144). -/
  | setLowMark
  /-- RESET_TRIP (R87). -/
  | resetTrip
  /-- CLEAR_HALT (R164). -/
  | clearHalt
  /-- RESTART (R166). -/
  | restart
  /-- ZERO_CROSS_EDGE (R1, R7): an edge at the zero-cross input, with the time e from the last half-cycle boundary
  counted in periods of the 16 MHz crystal (section 12.3). -/
  | zeroCrossEdge (elapsed : Nat)
  /-- MAINS_LOST (R5): 3h have passed after the last boundary with no edge counted. -/
  | mainsLost
  /-- SUBSTITUTE_BOUNDARY (R6): in MAINS_LOST, h has passed after the last boundary. -/
  | substituteBoundary
  /-- LISTENING_END (R9): the half-cycle boundary that is the N-th after START. -/
  | listeningEnd
  /-- FIRST_WINDOW_START (R9): the half-cycle boundary at the count fixed for the first window start. -/
  | firstWindowStart
  /-- WINDOW_START (R2): the half-cycle boundary at which the count reaches the window end count. -/
  | windowStart
  /-- OWN_SLOT (R18): the half-cycle boundary at which the count reaches the own slot. -/
  | ownSlot
  /-- ANNOUNCE_SENT (R20): a transmission attempt of the own ANNOUNCE succeeds. -/
  | announceSent
  /-- TRANSMIT_ATTEMPT_FAIL (R17): a transmission attempt fails. -/
  | transmitAttemptFail
  /-- LEAVE_SENT (R23): a transmission attempt of the pending LEAVE succeeds. -/
  | leaveSent
  /-- SEQUENCE_POSITION (R145): the half-cycle boundary at which the count reaches N - 20. -/
  | sequencePosition
  /-- SHARE_POSITION (R44): the half-cycle boundary at which the count reaches N - 16. -/
  | sharePosition
  /-- CONTROL_POSITION (R74): the half-cycle boundary at which the count reaches N - 10. -/
  | controlPosition
  /-- ANNOUNCE_ARRIVAL (R24, R25): a frame arrives whose identifier is not one of a LEAVE. -/
  | announceArrival (frame : CanFrame)
  /-- LEAVE_ARRIVAL (R24, R28): a frame arrives with an identifier of a LEAVE. -/
  | leaveArrival (frame : CanFrame)
  /-- BURNOUT_TEST (R58): the settling half of a thermocouple slot ends, with the loop resistance found, in ohms. -/
  | burnoutTest (loopOhms : Nat)
  /-- CONVERSION_COMPLETE (R55): the conversion of the current channel completes, with the value the fixed conversion
  laws give (0.1 °C, fu, or thousandths of full scale), which the manual leaves untabulated. -/
  | conversionComplete (measured : Int)
  /-- MOTION_TICK (R127, R128): 10 ms of crystal time. -/
  | motionTick
  /-- SPEED_UPDATE (R127, R129): the motion tick that is the tenth, and so a speed update. -/
  | speedUpdate
  /-- HOME_SWITCH_ACTIVATION (R124): the home switch passes from inactive to active. -/
  | homeSwitchActivation
  /-- HALT_ASSERT (R163): the HALT line passes from released to asserted. -/
  | haltAssert
  /-- HALT_RELEASE (R163): the HALT line passes from asserted to released. -/
  | haltRelease
  /-- HOME_SWITCH_RELEASE (R124): the home switch passes from active to inactive. -/
  | homeSwitchRelease
  /-- BYTE_TIME (R168): one byte is shifted in from the host and one out of the reply slot. -/
  | byteTime (byteIn : Byte)
  /-- CHIP_SELECT_RELEASE_DISCARDING (R169): chip select is released in DISCARDING. -/
  | chipSelectReleaseDiscarding
deriving DecidableEq, Repr

end Sys2Proof
end

