-- ==== Sys2Proof/Decode.lean ====
section
/-! DEFINITION. The command that a word spells by the bits of spec/opcode_table.json. No row of that table gives bits: the
part's steps are events, and a host command is told apart by the first byte of its frame, at the taking (R171). -/

namespace Sys2Proof

/-- The command a word of the table spells: none, since no row has bits (log entry 25). -/
def decodeTableWord (_nbits _w : Nat) : Option Instr := none

end Sys2Proof
end

