-- ==== Sys2Proof/Config.lean ====
section
/-! DEFINITION. The figures the part is built with (section 12.3) and the FREE VALUES: what the manual leaves open,
as constants without a body, so that no statement can rest on what they are. -/

namespace Sys2Proof

/-- Which of the other blocks' window-start work comes before the loader's dwell check. R2 lets no block wait for
another, and R97, R106, R119, R136, R152 and R165 give both outcomes of each of these pairs. -/
structure WindowOrder where
  /-- The ramp step comes before the dwell check (R106, R165). -/
  rampFirst : Bool
  /-- The gas unit's judgement of the curtain comes before the dwell check (R119, R135). -/
  curtainFirst : Bool
  /-- The executor's window count comes before the dwell check (R152, R165). -/
  countFirst : Bool
deriving DecidableEq, Repr, Inhabited

/-- FREE VALUE (log entry 3). The order of the window-start work in the n-th window start at which it matters. -/
opaque Config.windowOrder : Nat → WindowOrder

/-- FREE VALUE (log entry 4). Whether a station's leaving of JOINING is taken before the executor's work of the same
sequence position (R156, R162), at the n-th such position. -/
opaque Config.joinFirst : Nat → Bool

/-- FREE VALUE (log entry 5). The byte clocked out in a byte time of the DISCARDING state (R169 gives none). -/
opaque Config.discardedOut : Nat → BitVec 8

/-- The burnout threshold: a loop resistance of 20 kΩ, in ohms (R58, section 12.3). -/
def Config.burnoutOhms : Nat := 20000

end Sys2Proof
end

