-- ==== Sys2Proof/Machine/Containers.lean ====
section
/-! DEFINITION. Reading and building the two fixed-size collections, and the plain arithmetic of the manual's
Conventions: clamping, rounding up, saturating counts. -/

namespace Sys2Proof

/-- The item of one zone. -/
def PerZone.get {α : Type} (p : PerZone α) : ZoneId → α
  | .z1 => p.z1
  | .z2 => p.z2
  | .z3 => p.z3
  | .z4 => p.z4
  | .z5 => p.z5

/-- The collection whose item of each zone is given by a function. -/
def PerZone.ofFn {α : Type} (f : ZoneId → α) : PerZone α :=
  ⟨f .z1, f .z2, f .z3, f .z4, f .z5⟩

/-- Replace the item of one zone. -/
def PerZone.set {α : Type} (p : PerZone α) (z : ZoneId) (v : α) : PerZone α :=
  PerZone.ofFn fun w => if w = z then v else p.get w

/-- The same item for every zone. -/
def PerZone.all {α : Type} (v : α) : PerZone α := ⟨v, v, v, v, v⟩

/-- The five zones in order, Z1 first. -/
def ZoneId.list : List ZoneId := [.z1, .z2, .z3, .z4, .z5]

/-- A zone's index in frames and replies: 0 for Z1 to 4 for Z5 (R160). -/
def ZoneId.index : ZoneId → Nat
  | .z1 => 0
  | .z2 => 1
  | .z3 => 2
  | .z4 => 3
  | .z5 => 4

/-- The zone a zone index names; an index above 4 names none (R171). -/
def ZoneId.ofIndex? : Nat → Option ZoneId
  | 0 => some .z1
  | 1 => some .z2
  | 2 => some .z3
  | 3 => some .z4
  | 4 => some .z5
  | _ => none

/-- The item of one station number or band index. -/
def PerEight.get {α : Type} (p : PerEight α) (i : Fin 8) : α :=
  match i.val with
  | 0 => p.e0
  | 1 => p.e1
  | 2 => p.e2
  | 3 => p.e3
  | 4 => p.e4
  | 5 => p.e5
  | 6 => p.e6
  | _ => p.e7

/-- The collection whose item of each number is given by a function. -/
def PerEight.ofFn {α : Type} (f : Fin 8 → α) : PerEight α :=
  ⟨f 0, f 1, f 2, f 3, f 4, f 5, f 6, f 7⟩

/-- Replace the item of one number. -/
def PerEight.set {α : Type} (p : PerEight α) (i : Fin 8) (v : α) : PerEight α :=
  PerEight.ofFn fun j => if j = i then v else p.get j

/-- The same item for every number. -/
def PerEight.all {α : Type} (v : α) : PerEight α := ⟨v, v, v, v, v, v, v, v⟩

/-- The eight numbers in rising order. -/
def eightNumbers : List (Fin 8) := [0, 1, 2, 3, 4, 5, 6, 7]

/-- A value clamped to a range: replaced by the nearer end when it lies outside (Conventions, Arithmetic). -/
def clampNat (lo hi n : Nat) : Nat := if n < lo then lo else if hi < n then hi else n

/-- The same over signed values. -/
def clampInt (lo hi n : Int) : Int := if n < lo then lo else if hi < n then hi else n

/-- A quotient rounded up (Conventions, Arithmetic). -/
def ceilDiv (a b : Nat) : Nat := (a + b - 1) / b

/-- A count that saturates. -/
def satAdd1 (limit n : Nat) : Nat := if n < limit then n + 1 else limit

/-- The difference of two figures without sign. -/
def absDiff (a b : Nat) : Nat := if a ≤ b then b - a else a - b

end Sys2Proof
end

