-- ==== Sys2Proof/Machine/State.lean ====
section
/-! DEFINITION. The state of the part: one structure per block of the block overview, each field named by the table or
rule of the manual that gives it, and the values hard reset leaves. Every field is plain data. Three items the manual
lists are not stored but computed from the others, so that they can never disagree with them: the ATTN level (R176),
the contactor outputs (R72) and the window end count (R11); Machine/Ops.lean gives them, with the transmit buffer
(R17) and the flow setpoint outputs (R113). -/

namespace Sys2Proof.Machine

/-! ### Station supervisor (chapter 10) and the configuration store (R159) -/

/-- The station state, consulted by every block (section 10.1). -/
inductive StationState where
  | unconfigured | joining | idle | running | held | halted
deriving DecidableEq, Repr

/-- The bank figures of SET_BANK (R159). `mainsCode` is 0 for 50 Hz and 1 for 60 Hz. -/
structure BankFigures where
  powerLimit     : Nat
  headerCapacity : Nat
  stationCount   : Nat
  mainsCode      : Nat
  priority       : Nat
deriving DecidableEq, Repr

/-- A zone's configuration record (R70). -/
structure ZoneConfig where
  inUse       : Bool
  rated       : Nat
  kp          : Nat
  ki          : Nat
  maxTemp     : Nat
  overLimit   : Nat
  spanStart   : Nat
  spanEnd     : Nat
  feedForward : Nat
deriving DecidableEq, Repr

/-- The gas figures (R108). -/
structure GasConfig where
  curtainFlow : Nat
  curtainMin  : Nat
  idlePurge   : Nat
deriving DecidableEq, Repr

/-- The loader figures (R121). -/
structure LoaderConfig where
  stroke      : Nat
  maxSpeed    : Nat
  accel       : Nat
  stopStep    : Nat
  homingSpeed : Nat
deriving DecidableEq, Repr

/-- A band of the loader band table: positions from `first` up to, but not including, `last` (R122). -/
structure Band where
  first : Nat
  last  : Nat
  limit : Nat
deriving DecidableEq, Repr

/-- The configuration store (R159). -/
structure Store where
  bank   : BankFigures
  zones  : PerZone ZoneConfig
  gas    : GasConfig
  loader : LoaderConfig
  bands  : PerEight (Option Band)
deriving DecidableEq, Repr

/-- The station supervisor: station state, joining count (R162), configuration store, and the level of the HALT line
(R163), `true` when asserted. -/
structure Supervisor where
  station      : StationState
  joiningCount : Nat
  store        : Store
  haltAsserted : Bool
deriving DecidableEq, Repr

/-! ### Round timer (chapter 1) -/

/-- Timer state. -/
inductive TimerState where
  | stopped | listening | phased
deriving DecidableEq, Repr

/-- Mains state. -/
inductive MainsState where
  | present | lost
deriving DecidableEq, Repr

/-- What an ANNOUNCE heard while LISTENING leaves (R8). -/
structure ListenRecord where
  count : Nat
  round : Nat
deriving DecidableEq, Repr

/-- The first window start as fixed when listening ends (R9). -/
structure FirstStart where
  count : Nat
  round : Nat
deriving DecidableEq, Repr

/-- The latest judged arrival of a peer in the running window (R10), and whether the peer is in the heard set (R11). -/
structure Judged where
  count     : Nat
  round     : Nat
  disagrees : Bool
  heard     : Bool
deriving DecidableEq, Repr

/-- The phase candidate (R11). -/
structure Candidate where
  station : StationNo
  count   : Nat
  round   : Nat
deriving DecidableEq, Repr

/-- The round timer. `boundarySeen` says that a boundary has been counted since START, the distinction R1 makes for
the first edge; `firstStart` is what R9 fixes when listening ends. -/
structure RoundTimer where
  timer        : TimerState
  mains        : MainsState
  windowCount  : Nat
  round        : Nat
  candidate    : Option Candidate
  lastLength   : Nat
  listening    : PerEight (Option ListenRecord)
  firstStart   : Option FirstStart
  judged       : PerEight (Option Judged)
  ownHeard     : Bool
  boundarySeen : Bool
deriving DecidableEq, Repr

/-! ### Bank link (chapter 2) -/

/-- Status of the own announcement record. -/
inductive RecordStatus where
  | none | pending | sent | dropped
deriving DecidableEq, Repr

/-- What an ANNOUNCE says of its station (R18). -/
structure Figures where
  station       : StationState
  priority      : Nat
  powerFirm     : Nat
  powerExtra    : Nat
  nitrogenFirm  : Nat
  nitrogenExtra : Nat
deriving DecidableEq, Repr

/-- The own announcement record (R18, R22). -/
structure OwnRecord where
  status    : RecordStatus
  round     : Nat
  figures   : Figures
  signature : Nat
deriving DecidableEq, Repr

/-- Presence of a peer table entry (R26). -/
inductive Presence where
  | absent | fresh | stale | mismatch
deriving DecidableEq, Repr

/-- A peer table entry (R30). -/
structure PeerEntry where
  presence  : Presence
  heard     : Bool
  lastRound : Nat
  age       : Nat
  figures   : Figures
  agrees    : Bool
deriving DecidableEq, Repr

/-- The bank link. `pendingLeave` holds the one byte of a LEAVE that awaits transmission, its signature (R23). The
position of the own number in `peers` is never written. -/
structure BankLink where
  ownNumber     : StationNo
  signature     : Nat
  record        : OwnRecord
  pendingLeave  : Option Nat
  peers         : PerEight PeerEntry
  unsent        : Nat
  solo          : Bool
  duplicateHold : Nat
deriving DecidableEq, Repr

/-! ### Share unit (chapter 3) -/

/-- The share unit (section 3.3). -/
structure ShareUnit where
  powerGrant        : Nat
  nitrogenGrant     : Nat
  countedPower      : Nat
  countedNitrogen   : Nat
  powerFirmGrant    : Nat
  nitrogenFirmGrant : Nat
  powerShort        : Bool
  nitrogenShort     : Bool
  capApplied        : Bool
deriving DecidableEq, Repr

/-! ### Thermocouple scanner (chapter 4) -/

/-- The fourteen channels (section 4.1). -/
inductive Channel where
  | ct (z : ZoneId)
  | lt (z : ZoneId)
  | cj | fp | fc | ref
deriving DecidableEq, Repr

/-- Which half of a slot is under way (R55). -/
inductive SlotHalf where
  | settling | converting
deriving DecidableEq, Repr

/-- Status of a reading. -/
inductive ReadingStatus where
  | valid | over | under | openCircuit | stale | fault
deriving DecidableEq, Repr

/-- A reading record. -/
structure Reading where
  value  : Nat
  status : ReadingStatus
  age    : Nat
deriving DecidableEq, Repr

/-- State of the CJ check and of the REF check. -/
inductive Check where
  | untested | pass | fail
deriving DecidableEq, Repr

/-- The conversions of a flow channel since the last window start (R67). -/
structure Accumulation where
  sum   : Nat
  count : Nat
deriving DecidableEq, Repr

/-- The scanner. `openJudged` is the open judgement of the current slot: absent before its burnout test, `true` for
open (R58). -/
structure Scanner where
  channel    : Channel
  half       : SlotHalf
  openJudged : Option Bool
  ct         : PerZone Reading
  lt         : PerZone Reading
  cj         : Reading
  fp         : Reading
  fc         : Reading
  ref        : Reading
  cjCheck    : Check
  refCheck   : Check
  fpAcc      : Accumulation
  fcAcc      : Accumulation
  lastFp     : Nat
  lastFc     : Nat
deriving DecidableEq, Repr

/-! ### Zone controller (chapter 5) -/

/-- A zone's class for the split (R77). -/
inductive ZoneClass where
  | firm | rising
deriving DecidableEq, Repr

/-- A zone's state (section 5.2). `gate` is the zone's firing output: whether it drives the half-cycle under way. -/
structure ZoneState where
  integral       : Nat
  demand         : Nat
  powerDemand    : Nat
  zoneClass      : ZoneClass
  granted        : Nat
  dutyNext       : Nat
  curtailedNext  : Bool
  dutyRunning    : Nat
  curtailed      : Bool
  fired          : Nat
  firingStopped  : Bool
  tripped        : Bool
  openHold       : Bool
  recovery       : Nat
  gate           : Bool
deriving DecidableEq, Repr

/-- The zone controller: the zones and the station's power figures (R78). -/
structure ZoneControl where
  zones      : PerZone ZoneState
  powerFirm  : Nat
  powerExtra : Nat
deriving DecidableEq, Repr

/-! ### Ramp generator (chapter 6) -/

/-- A zone's ramp state (R100). -/
inductive RampState where
  | rising | falling | steady
deriving DecidableEq, Repr

/-- What the ramp generator holds for a zone (section 6.1). -/
structure RampZone where
  setpoint : Option Nat
  start    : Option Nat
  target   : Option Nat
  state    : RampState
deriving DecidableEq, Repr

/-- The conditions that held a ramp step (R96), a set. -/
structure HoldCauses where
  curtailed : Bool
  guard     : Bool
  reading   : Bool
  station   : Bool
deriving DecidableEq, Repr

/-- The ramp generator: its zones and the progress record of the thermal part. -/
structure Ramp where
  zones            : PerZone RampZone
  partCurrent      : Bool
  rate             : Nat
  guardBand        : Nat
  pattern          : Nat
  held             : Bool
  causes           : HoldCauses
  complete         : Bool
  largestDeviation : Nat
deriving DecidableEq, Repr

/-! ### Gas unit (chapter 7) -/

/-- The flows commanded for a window and whether they are for a gas part. -/
structure Commanded where
  curtain  : Nat
  purge    : Nat
  partFlow : Bool
deriving DecidableEq, Repr

/-- The gas part record. -/
structure GasPart where
  current  : Bool
  flow     : Nat
  litres   : Nat
  target   : Nat
  volume   : Nat
  complete : Bool
deriving DecidableEq, Repr

/-- The gas unit. `takenInWindow` says that the running window is the one in which the gas part was taken: its flows were
commanded before the part began, so it does not count toward the part (R115, log entry 28). -/
structure Gas where
  required      : Bool
  purgeDemand   : Nat
  nitrogenFirm  : Nat
  nitrogenExtra : Nat
  next          : Commanded
  running       : Commanded
  faultCount    : Nat
  faultReported : Bool
  established   : Bool
  lost          : Bool
  good          : Nat
  bad           : Nat
  part          : GasPart
  takenInWindow : Bool
deriving DecidableEq, Repr

/-! ### Boat loader (chapter 8) -/

/-- Direction of the loader: IN toward the stroke end, OUT toward home. -/
inductive Direction where
  | outward | inward
deriving DecidableEq, Repr

/-- Loader state (section 8.2). -/
inductive LoaderState where
  | atRest | waitCurtain | homing | moving | stopping | dwell | stalled
deriving DecidableEq, Repr

/-- The stop causes (R132). -/
inductive StopCause where
  | hold | halt | curtain | dwell | skip
deriving DecidableEq, Repr

/-- The stop-cause set. -/
structure StopCauses where
  hold    : Bool
  halt    : Bool
  curtain : Bool
  dwell   : Bool
  skip    : Bool
deriving DecidableEq, Repr

/-- The approach record: a band, by its index in the band table, and its speed limit (R129). -/
structure Approach where
  band  : Fin 8
  limit : Nat
deriving DecidableEq, Repr

/-- The boat part record. -/
structure BoatPart where
  current   : Bool
  target    : Nat
  speed     : Nat
  dwellBand : Nat
  maxDwell  : Nat
  complete  : Bool
deriving DecidableEq, Repr

/-- The boat loader. `tickPhase` counts the motion ticks since the last speed update (R127), `stepOut` says whether
the last motion tick issued a step pulse, and `homeActive` is the level of the home switch. -/
structure Loader where
  position     : Option Nat
  speed        : Nat
  direction    : Direction
  state        : LoaderState
  causes       : StopCauses
  braking      : Bool
  approach     : Option Approach
  homingTravel : Nat
  dwellTotal   : Nat
  pattern      : Nat
  part         : BoatPart
  tickPhase    : Nat
  stepOut      : Bool
  homeActive   : Bool
deriving DecidableEq, Repr

/-! ### Segment executor (chapter 9) -/

/-- The thermal part of a segment record. -/
structure ThermalSpec where
  targets   : PerZone (Option Nat)
  rate      : Nat
  guardBand : Nat
deriving DecidableEq, Repr

/-- The gas part of a segment record. -/
structure GasSpec where
  flow   : Nat
  litres : Nat
deriving DecidableEq, Repr

/-- The boat part of a segment record. -/
structure BoatSpec where
  target    : Nat
  speed     : Nat
  dwellBand : Nat
  maxDwell  : Nat
deriving DecidableEq, Repr

/-- A segment record (section 9.1). -/
structure Segment where
  id          : Nat
  thermal     : Option ThermalSpec
  gas         : Option GasSpec
  boat        : Option BoatSpec
  minDuration : Nat
deriving DecidableEq, Repr

/-- The current segment with its runtime fields. -/
structure CurrentSegment where
  record           : Segment
  windows          : Nat
  heldWindows      : Nat
  curtailedWindows : Nat
  skipPending      : Bool
deriving DecidableEq, Repr

/-- The five amend fields, each present or absent; the amend shadow with all five absent is the absent shadow (R146). -/
structure AmendFields where
  rate      : Option Nat
  guardBand : Option Nat
  purgeFlow : Option Nat
  boatSpeed : Option Nat
  dwellBand : Option Nat
deriving DecidableEq, Repr

/-- The urgent kinds (R148). -/
inductive UrgentKind where
  | skip | hold | resume | flush
deriving DecidableEq, Repr

/-- Result of the last urgent command. -/
inductive UrgentResult where
  | none | pending | taken | ignored
deriving DecidableEq, Repr

/-- Result of an ended segment. -/
inductive SegmentResult where
  | done | skipped
deriving DecidableEq, Repr

/-- An outcome record (R157). -/
structure OutcomeRecord where
  id               : Nat
  result           : SegmentResult
  windows          : Nat
  heldWindows      : Nat
  curtailedWindows : Nat
  dwellTotal       : Nat
  litres           : Nat
  largestDeviation : Nat
deriving DecidableEq, Repr

/-- The segment executor (section 9.1). -/
structure Executor where
  queue      : List Segment
  current    : Option CurrentSegment
  shadow     : AmendFields
  urgent     : Option UrgentKind
  lastKind   : Option UrgentKind
  lastResult : UrgentResult
  nextId     : Nat
  lowMark    : Nat
  outcomes   : List OutcomeRecord
deriving DecidableEq, Repr

/-! ### Host port (chapter 11) -/

/-- Transaction state (R168). -/
inductive TransactionState where
  | idle | receiving | discarding
deriving DecidableEq, Repr

/-- Result codes (section 11.2). -/
inductive ResultCode where
  | ok | okClamped | badState | badValue | badConfig | queueFull | urgentBusy | unknown | frameError
deriving DecidableEq, Repr

/-- A reply's five parts (R170). `data` holds the data bytes used, bytes 6 onward; the bytes after them are 0. -/
structure Reply where
  result  : ResultCode
  command : Byte
  station : StationState
  reasons : BitVec 16
  data    : List Byte
deriving DecidableEq, Repr

/-- The host port. The reason set and the mask are words with each reason at its bit (R177). `dataOut` is the byte the
data output last shifted out, absent while chip select is released or before the first byte time. Chip select is
asserted exactly when the transaction state is not IDLE (R168, R169). -/
structure HostPort where
  transaction : TransactionState
  byteCount   : Nat
  buffer      : List Byte
  reply       : Reply
  reasons     : BitVec 16
  mask        : BitVec 16
  dataOut     : Option Byte
deriving DecidableEq, Repr

/-- The whole part. `freeIndex` is the model's own: it counts the free values used (log entry 6). `pending` is the queue
of commands that wait to be taken, first in, first out. -/
structure State where
  timer      : RoundTimer
  bank       : BankLink
  share      : ShareUnit
  scanner    : Scanner
  zones      : ZoneControl
  ramp       : Ramp
  gas        : Gas
  loader     : Loader
  exec       : Executor
  sup        : Supervisor
  host       : HostPort
  freeIndex  : Nat
  pending    : List Instr
deriving DecidableEq, Repr

/-- The reasons a step may stop the machine with a fault: none. The manual gives every step of the part an effect in
every state. (Safe: nothing raises one.) -/
inductive Fault where
deriving DecidableEq, Repr

/-- The reasons a step may be refused. -/
inductive Refusal where
  /-- Raised by an arm of exec whose command has no meaning yet; safe. No arm of this model raises it. -/
  | notModelled (mnemonic : String)
deriving DecidableEq, Repr

/-! ### The values hard reset leaves -/

/-- Bank figures after hard reset and RESTART (R159). -/
def BankFigures.reset : BankFigures := ⟨0, 0, 0, 0, 0⟩

/-- A zone's configuration after hard reset and RESTART (R70). -/
def ZoneConfig.reset : ZoneConfig := ⟨false, 1, 0, 0, 0, 0, 0, 0, 0⟩

/-- The store after hard reset and RESTART (R159, R70, R108, R121, R122). -/
def Store.reset : Store where
  bank := BankFigures.reset
  zones := PerZone.all ZoneConfig.reset
  gas := ⟨0, 0, 0⟩
  loader := ⟨1000, 1, 1, 1, 1⟩
  bands := PerEight.all none

/-- R4. -/
def RoundTimer.reset : RoundTimer where
  timer := .stopped
  mains := .present
  windowCount := 0
  round := 0
  candidate := none
  lastLength := 0
  listening := PerEight.all none
  firstStart := none
  judged := PerEight.all none
  ownHeard := false
  boundarySeen := false

/-- The figures of the reset own record and of a reset peer entry (R22, R30). -/
def Figures.reset : Figures := ⟨.joining, 0, 0, 0, 0, 0⟩

/-- R22. -/
def OwnRecord.reset : OwnRecord := ⟨.none, 0, Figures.reset, 0⟩

/-- R30. -/
def PeerEntry.reset : PeerEntry := ⟨.absent, false, 0, 0, Figures.reset, false⟩

/-- The bank link after hard reset with a strap reading (R16, R22, R23, R30, R32, R34). -/
def BankLink.reset (straps : StationNo) : BankLink where
  ownNumber := straps
  signature := 0
  record := OwnRecord.reset
  pendingLeave := none
  peers := PerEight.all PeerEntry.reset
  unsent := 0
  solo := false
  duplicateHold := 0

/-- R43. -/
def ShareUnit.reset : ShareUnit := ⟨0, 0, 0, 0, 0, 0, false, false, false⟩

/-- R56. -/
def Reading.reset : Reading := ⟨0, .stale, 15⟩

/-- R54, R56. -/
def Scanner.reset : Scanner where
  channel := .cj
  half := .settling
  openJudged := none
  ct := PerZone.all Reading.reset
  lt := PerZone.all Reading.reset
  cj := Reading.reset
  fp := Reading.reset
  fc := Reading.reset
  ref := Reading.reset
  cjCheck := .untested
  refCheck := .untested
  fpAcc := ⟨0, 0⟩
  fcAcc := ⟨0, 0⟩
  lastFp := 0
  lastFc := 0

/-- R73; the firing outputs are off. -/
def ZoneState.reset : ZoneState where
  integral := 0
  demand := 0
  powerDemand := 0
  zoneClass := .firm
  granted := 0
  dutyNext := 0
  curtailedNext := false
  dutyRunning := 0
  curtailed := false
  fired := 0
  firingStopped := false
  tripped := false
  openHold := false
  recovery := 0
  gate := false

/-- R73. -/
def ZoneControl.reset : ZoneControl := ⟨PerZone.all ZoneState.reset, 0, 0⟩

/-- The empty set of hold causes. -/
def HoldCauses.empty : HoldCauses := ⟨false, false, false, false⟩

/-- R91. -/
def Ramp.reset : Ramp where
  zones := PerZone.all ⟨none, none, none, .steady⟩
  partCurrent := false
  rate := 0
  guardBand := 0
  pattern := 1
  held := false
  causes := HoldCauses.empty
  complete := false
  largestDeviation := 0

/-- R113, R115, R117, R119, R120: no part is taken, so no window is one of taking. -/
def Gas.reset : Gas where
  required := false
  purgeDemand := 0
  nitrogenFirm := 0
  nitrogenExtra := 0
  next := ⟨0, 0, false⟩
  running := ⟨0, 0, false⟩
  faultCount := 0
  faultReported := false
  established := false
  lost := false
  good := 0
  bad := 0
  part := ⟨false, 0, 0, 0, 0, false⟩
  takenInWindow := false

/-- The empty stop-cause set. -/
def StopCauses.empty : StopCauses := ⟨false, false, false, false, false⟩

/-- R123, R127; the step output gives no pulse. -/
def Loader.reset : Loader where
  position := none
  speed := 0
  direction := .outward
  state := .atRest
  causes := StopCauses.empty
  braking := false
  approach := none
  homingTravel := 0
  dwellTotal := 0
  pattern := 1
  part := ⟨false, 0, 1, 0, 0, false⟩
  tickPhase := 0
  stepOut := false
  homeActive := false

/-- The absent amend shadow. -/
def AmendFields.absent : AmendFields := ⟨none, none, none, none, none⟩

/-- R141, R157. -/
def Executor.reset : Executor where
  queue := []
  current := none
  shadow := AmendFields.absent
  urgent := none
  lastKind := none
  lastResult := .none
  nextId := 1
  lowMark := 0
  outcomes := []

/-- R159, R162; the HALT line is released (log entry 2). -/
def Supervisor.reset : Supervisor := ⟨.unconfigured, 0, Store.reset, false⟩

/-- The reply to a NOP taken right after hard reset (R170). -/
def Reply.reset : Reply := ⟨.ok, 0x01, .unconfigured, 0, []⟩

/-- R170, R173, R175: no reason pending, every maskable reason masked. The byte count and the command buffer are zero
(log entry 2). -/
def HostPort.reset : HostPort where
  transaction := .idle
  byteCount := 0
  buffer := List.replicate 32 0
  reply := Reply.reset
  reasons := 0
  mask := 0xFFF0
  dataOut := none

/-- The part right after hard reset with station straps 0, its lines released and no command waiting (R166; log
entry 2 for what the rules leave to the board). -/
def State.reset : State where
  timer := RoundTimer.reset
  bank := BankLink.reset 0
  share := ShareUnit.reset
  scanner := Scanner.reset
  zones := ZoneControl.reset
  ramp := Ramp.reset
  gas := Gas.reset
  loader := Loader.reset
  exec := Executor.reset
  sup := Supervisor.reset
  host := HostPort.reset
  freeIndex := 0
  pending := []

end Sys2Proof.Machine
end

