-- ==== Sys2Proof/Machine/Ops.lean ====
section
/-! DEFINITION. The named operations over the state that every block uses: replacing one block's state, the figures a
block reads from the configuration store, and the items that are computed from the others instead of stored. -/

namespace Sys2Proof.Machine

/-! ### Replacing one block's state -/

/-- Replace `timer` and leave the rest. -/
def State.setTimer (s : State) (v : RoundTimer) : State := { s with timer := v }

/-- Replace `bank` and leave the rest. -/
def State.setBank (s : State) (v : BankLink) : State := { s with bank := v }

/-- Replace `share` and leave the rest. -/
def State.setShare (s : State) (v : ShareUnit) : State := { s with share := v }

/-- Replace `scanner` and leave the rest. -/
def State.setScanner (s : State) (v : Scanner) : State := { s with scanner := v }

/-- Replace `zones` and leave the rest. -/
def State.setZones (s : State) (v : ZoneControl) : State := { s with zones := v }

/-- Replace `ramp` and leave the rest. -/
def State.setRamp (s : State) (v : Ramp) : State := { s with ramp := v }

/-- Replace `gas` and leave the rest. -/
def State.setGas (s : State) (v : Gas) : State := { s with gas := v }

/-- Replace `loader` and leave the rest. -/
def State.setLoader (s : State) (v : Loader) : State := { s with loader := v }

/-- Replace `exec` and leave the rest. -/
def State.setExec (s : State) (v : Executor) : State := { s with exec := v }

/-- Replace `sup` and leave the rest. -/
def State.setSup (s : State) (v : Supervisor) : State := { s with sup := v }

/-- Replace `host` and leave the rest. -/
def State.setHost (s : State) (v : HostPort) : State := { s with host := v }

/-- Replace `freeIndex` and leave the rest. -/
def State.setFreeIndex (s : State) (v : Nat) : State := { s with freeIndex := v }

/-- Replace `pending` and leave the rest. -/
def State.setPending (s : State) (v : List Instr) : State := { s with pending := v }

/-! ### Figures read from the configuration store -/

/-- The configuration store. -/
def State.store (s : State) : Store := s.sup.store

/-- N, the half-cycles of a window in the normal case: 100 at 50 Hz and 120 at 60 Hz (R2). -/
def Store.halfCycles (c : Store) : Nat := if c.bank.mainsCode = 0 then 100 else 120

/-- N for the configured mains frequency. -/
def State.n (s : State) : Nat := s.store.halfCycles

/-- 3h in periods of the 16 MHz crystal: 30 ms at 50 Hz and 25 ms at 60 Hz (R1, R5). h itself is a third of it. -/
def State.threeH (s : State) : Nat := if s.store.bank.mainsCode = 0 then 480000 else 400000

/-- The number of half-cycles in two minutes, which turns litres into fu·half-cycles (chapter 7, R111). -/
def State.halfCyclesPerLitre (s : State) : Nat := if s.store.bank.mainsCode = 0 then 12000 else 14400

/-- The slot of a station, 4 + 10 × its number (R2, R16). -/
def slotOf (i : StationNo) : Nat := 4 + 10 * i.val

/-- The own slot. -/
def State.slot (s : State) : Nat := slotOf s.bank.ownNumber

/-- The sequence position (R2). -/
def State.seqPos (s : State) : Nat := s.n - 20

/-- The share position (R2). -/
def State.sharePos (s : State) : Nat := s.n - 16

/-- The control position (R2). -/
def State.ctlPos (s : State) : Nat := s.n - 10

/-- A limit's fallback share: divided by the configured station count, rounded down (R45). -/
def State.fallback (s : State) (limit : Nat) : Nat := limit / s.store.bank.stationCount

/-! ### Items computed from the stored ones -/

/-- The count at which a candidate's next window starts, E = P - (4 + 10·s) + N (R11). -/
def Candidate.endCount (c : Candidate) (n : Nat) : Nat := c.count + n - slotOf c.station

/-- The window end count: N while no phase candidate is held, and otherwise the candidate's (R11). -/
def State.endCount (s : State) : Nat :=
  match s.timer.candidate with
  | none => s.n
  | some c => c.endCount s.n

/-- The contactor output of a zone: closed while the station is not UNCONFIGURED, the zone is in use and its trip is not
latched (R72). -/
def State.contactorClosed (s : State) (z : ZoneId) : Bool :=
  decide (s.sup.station ≠ .unconfigured) && (s.store.zones.get z).inUse && !(s.zones.zones.get z).tripped

/-- The curtain flow setpoint output (R113). -/
def State.curtainOutput (s : State) : Nat := s.gas.running.curtain

/-- The purge flow setpoint output (R113). -/
def State.purgeOutput (s : State) : Nat := s.gas.running.purge

/-- The boat is sealed: its position known and equal to the stroke, and the loader AT_REST (R109, R138). -/
def State.sealed (s : State) : Bool :=
  decide (s.loader.position = some s.store.loader.stroke) && decide (s.loader.state = .atRest)

/-- A zone's trip is latched in some zone. -/
def State.anyTrip (s : State) : Bool := ZoneId.list.any fun z => (s.zones.zones.get z).tripped

end Sys2Proof.Machine
end

