-- ==== Sys2Proof/Machine/Flags.lean ====
section
/-! DEFINITION. The reason set, its mask and the ATTN line (sections 11.4 and 11.5). -/

namespace Sys2Proof.Machine

/-- The bit of each reason in the reason set, the mask and the selections (R177): the order of the reason table. -/
def reasonHaltActive : BitVec 16 := 0x0001
/-- ZONE_TRIP. -/
def reasonZoneTrip : BitVec 16 := 0x0002
/-- MAINS_LOST. -/
def reasonMainsLost : BitVec 16 := 0x0004
/-- DUPLICATE_STATION. -/
def reasonDuplicateStation : BitVec 16 := 0x0008
/-- TC_OPEN. -/
def reasonTcOpen : BitVec 16 := 0x0010
/-- SCAN_FAULT. -/
def reasonScanFault : BitVec 16 := 0x0020
/-- FLOW_FAULT. -/
def reasonFlowFault : BitVec 16 := 0x0040
/-- CURTAIN_LOST. -/
def reasonCurtainLost : BitVec 16 := 0x0080
/-- LOADER_FAULT. -/
def reasonLoaderFault : BitVec 16 := 0x0100
/-- SEGMENT_DONE. -/
def reasonSegmentDone : BitVec 16 := 0x0200
/-- QUEUE_LOW. -/
def reasonQueueLow : BitVec 16 := 0x0400
/-- QUEUE_EMPTY. -/
def reasonQueueEmpty : BitVec 16 := 0x0800
/-- BANK_SHORT. -/
def reasonBankShort : BitVec 16 := 0x1000
/-- PEER_CHANGE. -/
def reasonPeerChange : BitVec 16 := 0x2000
/-- CONFIG_MISMATCH. -/
def reasonConfigMismatch : BitVec 16 := 0x4000
/-- SOLO. -/
def reasonSolo : BitVec 16 := 0x8000

/-- The twelve maskable reasons: all but HALT_ACTIVE, ZONE_TRIP, MAINS_LOST and DUPLICATE_STATION (R175). -/
def maskableReasons : BitVec 16 := 0xFFF0

/-- A block raises a reason: it is added to the reason set, which holds each reason once (R173). -/
def State.raise (s : State) (r : BitVec 16) : State :=
  s.setHost { s.host with reasons := s.host.reasons ||| r }

/-- Raise a reason when a condition holds. -/
def State.raiseIf (s : State) (c : Bool) (r : BitVec 16) : State := if c then s.raise r else s

/-- ATTN is asserted while the reason set holds an unmaskable reason or one the mask does not hold (R176). -/
def HostPort.attn (h : HostPort) : Bool := decide (h.reasons &&& ~~~(h.mask &&& maskableReasons) ≠ 0)

/-- The level of the ATTN output. -/
def State.attn (s : State) : Bool := s.host.attn

end Sys2Proof.Machine
end

