-- ==== Sys2Proof/Machine/Loader.lean ====
section
/-! DEFINITION. The boat loader (chapter 8) over its own record. Where an operation may begin a motion it is given
whether the curtain is established (R126); a stall is handed back as a flag, since its report is the supervisor's
(R137). -/

namespace Sys2Proof.Machine

/-- Whether a cause is in the stop-cause set. -/
def StopCauses.has (c : StopCauses) : StopCause → Bool
  | .hold => c.hold
  | .halt => c.halt
  | .curtain => c.curtain
  | .dwell => c.dwell
  | .skip => c.skip

/-- Put a cause into the set, or take it out. -/
def StopCauses.put (c : StopCauses) (k : StopCause) (v : Bool) : StopCauses :=
  match k with
  | .hold => { c with hold := v }
  | .halt => { c with halt := v }
  | .curtain => { c with curtain := v }
  | .dwell => { c with dwell := v }
  | .skip => { c with skip := v }

/-- The set is empty. -/
def StopCauses.isEmpty (c : StopCauses) : Bool := !(c.hold || c.halt || c.curtain || c.dwell || c.skip)

/-- The boat has reached its target: speed 0, the part complete, DWELL and CURTAIN out of the set, AT_REST (R128), and
target braking ends with the motion (R130). DESIGN CHOICE: the approach record stays, which R128 does not name (unsafe; log
entry 29). -/
def Loader.reached (l : Loader) : Loader :=
  { l with
    speed := 0
    braking := false
    state := .atRest
    causes := { l.causes with curtain := false, dwell := false }
    part := { l.part with complete := true } }

/-- Enter MOVING at speed 0 in a direction, with target braking no and no approach record (R126, R131). -/
def Loader.enterMoving (l : Loader) (d : Direction) : Loader :=
  { l with state := .moving, speed := 0, direction := d, braking := false, approach := none }

/-- Homing ends with the position known and 0 (R131). -/
def Loader.endHoming (l : Loader) : Loader :=
  let l := { l with position := some 0, speed := 0 }
  if l.part.target = 0 then l.reached else l.enterMoving .inward

/-- A loader in WAIT_CURTAIN begins its motion (R126, R131). -/
def Loader.beginMotion (l : Loader) : Loader :=
  match l.position with
  | some p => l.enterMoving (if p < l.part.target then .inward else .outward)
  | none =>
    let l := { l with state := .homing, direction := .outward, speed := 0, homingTravel := 0 }
    if l.homeActive then l.endHoming else l

/-- A motion start (R126). It is made from AT_REST, with a part current and incomplete and the stop-cause set empty;
otherwise the loader stays as it is. -/
def Loader.motionStart (established : Bool) (l : Loader) : Loader :=
  if l.state = .atRest ∧ l.part.current = true ∧ l.part.complete = false ∧ l.causes.isEmpty = true then
    if l.position = some l.part.target then { l with part := { l.part with complete := true } }
    else
      let l := { l with state := .waitCurtain }
      if established then l.beginMotion else l
  else l

/-- A stop ends at speed 0: target braking no, approach record absent, and the next state by the set (R133). -/
def Loader.endStop (established : Bool) (l : Loader) : Loader :=
  let l := { l with speed := 0, braking := false, approach := none, state := .atRest }
  if l.causes.isEmpty then l.motionStart established
  else if l.causes.dwell then { l with state := .dwell }
  else l

/-- A cause enters the stop-cause set, and the loader acts by its state (R132). -/
def Loader.addCause (established : Bool) (k : StopCause) (l : Loader) : Loader :=
  if l.causes.has k then l
  else
    let l := { l with causes := l.causes.put k true }
    match l.state with
    | .homing | .moving =>
      let l := { l with state := .stopping }
      if l.speed = 0 then l.endStop established else l
    | .waitCurtain => { l with state := .atRest }
    | .atRest | .stopping | .dwell | .stalled => l

/-- A cause leaves the stop-cause set, and the loader acts by its state (R134). -/
def Loader.removeCause (established : Bool) (k : StopCause) (l : Loader) : Loader :=
  if l.causes.has k then
    let l := { l with causes := l.causes.put k false }
    match l.state with
    | .atRest => l.motionStart established
    | .dwell =>
      if l.causes.isEmpty then ({ l with state := .atRest } : Loader).motionStart established
      else if k = .dwell then { l with state := .atRest }
      else l
    | .waitCurtain | .homing | .moving | .stopping | .stalled => l
  else l

/-- A stall: the step output stops, the speed becomes 0, the state STALLED (R137), and target braking ends with the
motion (R130). DESIGN CHOICE: the approach record stays, which R137 does not name (unsafe; log entry 29). -/
def Loader.stall (l : Loader) : Loader := { l with speed := 0, state := .stalled, braking := false }

/-- One step of the loader: the position changes by one toward the target and never past it, or the homing travel
counts a step while the position is unknown (R124, R128, R131). The flag says that the loader stalled instead. -/
def Loader.stepOnce (stroke : Nat) (l : Loader) : Loader × Bool :=
  match l.position with
  | some p =>
    match l.direction with
    | .inward =>
      if p < l.part.target then
        let l := { l with position := some (p + 1), stepOut := true }
        (if p + 1 = l.part.target then l.reached else l, false)
      else (l, false)
    | .outward =>
      if l.part.target < p then
        let l := { l with position := some (p - 1), stepOut := true }
        (if p - 1 = l.part.target then l.reached else l, false)
      else (l, false)
  | none =>
    if stroke + 500 < l.homingTravel + 1 then (l.stall, true)
    else ({ l with homingTravel := l.homingTravel + 1, stepOut := true }, false)

/-- The steps of one tick, issued one after another while the boat still moves. -/
def Loader.issueSteps (stroke : Nat) : Nat → Loader × Bool → Loader × Bool
  | 0, r => r
  | k + 1, r => Loader.issueSteps stroke k (if r.1.speed = 0 then r else r.1.stepOnce stroke)

/-- The spread pattern of a figure over a period: whether position `i` of it carries the extra unit of the remainder
(R98, R128). -/
def patternExtra (r i period : Nat) : Bool := decide (r * (i - 1) / period < r * i / period)

/-- The step work of one motion tick (R128). -/
def Loader.tick (stroke : Nat) (l : Loader) : Loader × Bool :=
  let l := { l with stepOut := false }
  if 0 < l.speed ∧ (l.state = .homing ∨ l.state = .moving ∨ l.state = .stopping) then
    let j := if l.pattern < 100 then l.pattern + 1 else 1
    let steps := l.speed / 100 + (if patternExtra (l.speed % 100) j 100 then 1 else 0)
    Loader.issueSteps stroke steps ({ l with pattern := j }, false)
  else (l, false)

/-- The distance covered while slowing from v to u by steps of a: (v - u) × (v + u + a) / (20 × a), rounded up (R129). -/
def brakingDistance (a v u : Nat) : Nat := ceilDiv ((v - u) * (v + u + a)) (20 * a)

/-- The speed moves toward the aim by at most a (R130). -/
def moveToward (a aim v : Nat) : Nat :=
  if v < aim then min aim (v + a) else if aim < v then max aim (v - a) else v

/-- A band covers the positions at or above its start and below its end (R122). -/
def Band.covers (b : Band) (p : Nat) : Bool := decide (b.first ≤ p) && decide (p < b.last)

/-- A band's near edge: the first position of it the boat would reach (R129). -/
def Band.nearEdge (b : Band) : Direction → Nat
  | .inward => b.first
  | .outward => b.last - 1

/-- Insert a band by its start. -/
def insertBand (b : Fin 8 × Band) : List (Fin 8 × Band) → List (Fin 8 × Band)
  | [] => [b]
  | c :: rest => if b.2.first < c.2.first then b :: c :: rest else c :: insertBand b rest

/-- The present bands with their indices, in order of index. -/
def bandsByIndex (t : PerEight (Option Band)) : List (Fin 8 × Band) :=
  eightNumbers.filterMap fun i => (t.get i).map fun b => (i, b)

/-- The present bands in order of start (R122). -/
def bandsByStart (t : PerEight (Option Band)) : List (Fin 8 × Band) :=
  (bandsByIndex t).foldr insertBand []

/-- The current band limit: that of the band covering the position, or the maximum speed (R122). -/
def currentLimit (maxSpeed : Nat) (t : PerEight (Option Band)) (p : Nat) : Nat :=
  match (bandsByStart t).find? fun b => b.2.covers p with
  | some b => b.2.limit
  | none => maxSpeed

/-- Strictly between two points. -/
def strictlyBetween (x a b : Nat) : Bool :=
  (decide (a < x) && decide (x < b)) || (decide (b < x) && decide (x < a))

/-- The boat has entered a band: it stands at or beyond the band's near edge in its direction (R129). -/
def Band.entered (b : Band) (d : Direction) (p : Nat) : Bool :=
  match d with
  | .inward => decide (b.first ≤ p)
  | .outward => decide (p < b.last)

/-- One band of the look-ahead: it lowers the aim speed and becomes the approach record when it lies ahead with a lower
limit and is within its braking distance (R129, item 3). -/
def lookAheadBand (l : Loader) (a p : Nat) (acc : Nat × Option Approach) (b : Fin 8 × Band) : Nat × Option Approach :=
  let edge := b.2.nearEdge l.direction
  if strictlyBetween edge p l.part.target = true ∧ b.2.limit < acc.1
      ∧ absDiff edge p ≤ brakingDistance a l.speed b.2.limit then
    (b.2.limit, some ⟨b.1, b.2.limit⟩)
  else acc

/-- The aim speed and the approach record of a speed update in MOVING (R129). -/
def Loader.aim (cfg : LoaderConfig) (t : PerEight (Option Band)) (p : Nat) (l : Loader) : Nat × Option Approach :=
  let aim := min l.part.speed (min cfg.maxSpeed (currentLimit cfg.maxSpeed t p))
  let record := match l.approach with
    | none => none
    | some r =>
      match t.get r.band with
      | some b => if b.entered l.direction p then none else some r
      | none => none
  let aim := match record with
    | none => aim
    | some r => min aim r.limit
  (bandsByStart t).foldl (lookAheadBand l cfg.accel p) (aim, record)

/-- The speed update in MOVING at a known position (R129, R130). -/
def Loader.updateMoving (cfg : LoaderConfig) (t : PerEight (Option Band)) (p : Nat) (l : Loader) : Loader :=
  let r := l.aim cfg t p
  let braking := l.braking || decide (absDiff p l.part.target ≤ brakingDistance cfg.accel l.speed 0)
  let v := moveToward cfg.accel (if braking then 0 else r.1) l.speed
  { l with approach := r.2, braking := braking, speed := if braking then max v 1 else v }

/-- The speed update (R129 to R131, R133). -/
def Loader.speedUpdate (established : Bool) (cfg : LoaderConfig) (t : PerEight (Option Band)) (l : Loader) : Loader :=
  match l.state with
  | .moving =>
    match l.position with
    | some p => l.updateMoving cfg t p
    | none => l
  | .homing => { l with speed := moveToward cfg.accel (min cfg.homingSpeed cfg.maxSpeed) l.speed }
  | .stopping =>
    let v := l.speed - (if l.causes.halt then cfg.stopStep else cfg.accel)
    if v = 0 then l.endStop established else { l with speed := v }
  | .atRest | .waitCurtain | .dwell | .stalled => l

/-- An activation of the home switch (R124). -/
def Loader.homeActivation (established : Bool) (l : Loader) : Loader :=
  match l.state with
  | .homing => l.endHoming
  | .moving =>
    match l.direction with
    | .outward =>
      let l := { l with position := some 0, speed := 0 }
      if l.part.target = 0 then l.reached else l.enterMoving .inward
    | .inward => l
  | .stopping =>
    match l.direction with
    | .outward => ({ l with position := some 0 } : Loader).endStop established
    | .inward => l
  | .atRest | .waitCurtain | .dwell | .stalled => l

/-- The curtain is lost: CURTAIN enters the set if the loader is HOMING, MOVING or STOPPING (R135). -/
def Loader.inMotion (l : Loader) : Bool :=
  decide (l.state = .homing) || decide (l.state = .moving) || decide (l.state = .stopping)

/-- The loader's part of a loss of the curtain (R135). -/
def Loader.curtainLost (l : Loader) : Loader := if l.inMotion then l.addCause false .curtain else l

/-- The loader's part of an establishment of the curtain: CURTAIN leaves the set, and a loader in WAIT_CURTAIN begins its
motion (R135). -/
def Loader.curtainEstablished (l : Loader) : Loader :=
  let l := l.removeCause true .curtain
  if l.state = .waitCurtain then l.beginMotion else l

/-- A boat part is taken, or the segment that becomes current carries none (R125). DESIGN CHOICE: without a boat part the
record keeps the old part's fields, target and complete flag among them, which R125 gives only until that instant (unsafe; log
entry 30). -/
def Loader.takePart (established : Bool) (b : Option BoatSpec) (l : Loader) : Loader :=
  let l := { l with dwellTotal := 0 }
  match b with
  | none => { l with part := { l.part with current := false } }
  | some b => ({ l with part := ⟨true, b.target, b.speed, b.dwellBand, b.maxDwell, false⟩ } : Loader).motionStart established

/-- The part leaves with its segment: SKIP, DWELL and CURTAIN leave the set, and a loader in WAIT_CURTAIN or DWELL goes to
AT_REST (R125). DESIGN CHOICE: the part's speed, dwell band and maximum dwell stay, which R125 does not name (unsafe; log entry
30). -/
def Loader.leavePart (l : Loader) : Loader :=
  { l with
    part := { l.part with current := false }
    causes := { l.causes with curtain := false, dwell := false, skip := false }
    state := if l.state = .waitCurtain ∨ l.state = .dwell then .atRest else l.state }

/-- Amended boat speed and dwell band reach the part if it is current (R125). -/
def Loader.amend (maxSpeed : Nat) (a : AmendFields) (l : Loader) : Loader :=
  if l.part.current then
    { l with
      part := { l.part with
        speed := (a.boatSpeed.map (clampNat 1 maxSpeed)).getD l.part.speed
        dwellBand := (a.dwellBand.map (clampNat 0 500)).getD l.part.dwellBand } }
  else l

/-- The dwell check over whether every zone considered lags by no more than half the band, and whether any lags by more
than the band (R136). The flag says that the loader stalled. -/
def Loader.dwellCheck (established recovered lagging : Bool) (l : Loader) : Loader × Bool :=
  let total := if l.causes.dwell then satAdd1 65535 l.dwellTotal else l.dwellTotal
  if l.causes.dwell = true ∧ 0 < l.part.maxDwell ∧ l.part.maxDwell < total then
    (({ l with dwellTotal := total, causes := l.causes.put .dwell false } : Loader).stall, true)
  else
    let l := { l with dwellTotal := total }
    let l := if l.state = .dwell ∧ (l.part.dwellBand = 0 ∨ recovered = true) then l.removeCause established .dwell else l
    let l :=
      if l.state = .moving ∧ l.direction = .inward ∧ 0 < l.part.dwellBand ∧ lagging = true then
        l.addCause established .dwell
      else l
    (l, false)

end Sys2Proof.Machine
end

