-- ==== Sys2Proof/Machine/Supervisor.lean ====
section
/-! DEFINITION. The station supervisor's moves between station states (chapter 10). The loader's stop-cause set changes
at the instant of the move (section 10.1, R132). -/

namespace Sys2Proof.Machine

/-- Replace the station state. -/
def State.setStation (s : State) (st : StationState) : State := s.setSup { s.sup with station := st }

/-- A stop cause enters the loader's set. -/
def State.addCause (s : State) (k : StopCause) : State := s.setLoader (s.loader.addCause s.gas.established k)

/-- A stop cause leaves the loader's set. -/
def State.removeCause (s : State) (k : StopCause) : State := s.setLoader (s.loader.removeCause s.gas.established k)

/-- The station enters HELD, and HOLD the stop-cause set (R132). -/
def State.enterHeld (s : State) : State := (s.setStation .held).addCause .hold

/-- An assertion of HALT taken outside UNCONFIGURED: HALT_ACTIVE is raised, and a station not yet HALTED enters HALTED
with HALT in the stop-cause set (R163). -/
def State.halt (s : State) : State :=
  let s := s.raise reasonHaltActive
  if s.sup.station = .halted then s else (s.setStation .halted).addCause .halt

/-- A report of a trip or of a stall moves a RUNNING or IDLE station to HELD (R165). -/
def State.report (s : State) : State :=
  if s.sup.station = .running ∨ s.sup.station = .idle then s.enterHeld else s

/-- A stall of the loader: LOADER_FAULT is raised and the supervisor told (R137). -/
def State.loaderStalled (s : State) : State := (s.raise reasonLoaderFault).report

/-- CLEAR_HALT's move from HALTED to HELD: HOLD enters and HALT leaves without the set passing through empty (R132,
R164). -/
def State.clearHaltToHeld (s : State) : State := s.enterHeld.removeCause .halt

/-- RESUME takes the station out of HELD: a STALLED loader returns to AT_REST with its dwell total at 0, and HOLD leaves the
set (R137, R150). -/
def State.resume (s : State) : State :=
  let s := s.setStation (if s.exec.current.isSome then .running else .idle)
  let s :=
    if s.loader.state = .stalled then s.setLoader { s.loader with state := .atRest, dwellTotal := 0 } else s
  s.removeCause .hold

end Sys2Proof.Machine
end

