-- ==== Sys2Proof/Machine/Scanner.lean ====
section
/-! DEFINITION. The thermocouple scanner (chapter 4), and what a completed thermocouple conversion does in the zone
controller: trips and open holds (sections 5.7 and 5.8). -/

namespace Sys2Proof.Machine

/-- The channel after one in the scan cycle (R54). -/
def Channel.next : Channel → Channel
  | .ct .z1 => .ct .z2
  | .ct .z2 => .ct .z3
  | .ct .z3 => .ct .z4
  | .ct .z4 => .ct .z5
  | .ct .z5 => .lt .z1
  | .lt .z1 => .lt .z2
  | .lt .z2 => .lt .z3
  | .lt .z3 => .lt .z4
  | .lt .z4 => .lt .z5
  | .lt .z5 => .cj
  | .cj => .fp
  | .fp => .fc
  | .fc => .ref
  | .ref => .ct .z1

/-- A thermocouple channel. -/
def Channel.isThermocouple : Channel → Bool
  | .ct _ => true
  | .lt _ => true
  | .cj => false
  | .fp => false
  | .fc => false
  | .ref => false

/-- A reading held by a conversion that measured nothing (R57, R64, R65). -/
def Reading.hold (r : Reading) (st : ReadingStatus) : Reading := ⟨r.value, st, satAdd1 15 r.age⟩

/-- The reading is VALID. -/
def Reading.isValid (r : Reading) : Bool := decide (r.status = .valid)

/-- The new reading of a thermocouple channel, by the first line of R57's table that applies. -/
def thermocoupleReading (isOpen : Bool) (cj ref : Check) (t : Int) (r : Reading) : Reading :=
  if isOpen then r.hold .openCircuit
  else if cj = .fail ∨ ref = .fail then r.hold .fault
  else if 15000 < t then ⟨15000, .over, 0⟩
  else if t < 0 then ⟨0, .under, 0⟩
  else ⟨t.toNat, .valid, 0⟩

/-- The new reading of a flow channel (R64). -/
def flowReading (ref : Check) (f : Int) (r : Reading) : Reading :=
  if ref = .fail then r.hold .fault else ⟨(clampInt 0 255 f).toNat, .valid, 0⟩

/-- A failed check marks a reading: VALID, OVER and UNDER become FAULT, with the value and the age kept (R61). -/
def Reading.mark (r : Reading) : Reading :=
  match r.status with
  | .valid | .over | .under => { r with status := .fault }
  | .openCircuit | .stale | .fault => r

/-- The same over the readings of every zone. -/
def markAll (p : PerZone Reading) : PerZone Reading := PerZone.ofFn fun z => (p.get z).mark

/-- Mark the thermocouple readings (R61). -/
def Scanner.markThermocouples (c : Scanner) : Scanner := { c with ct := markAll c.ct, lt := markAll c.lt }

/-- The CJ conversion: its reading, its check, and the marking of a failed check (R59, R61). -/
def Scanner.completeCj (c : Scanner) (t : Int) : Scanner :=
  let pass := 0 ≤ t ∧ t ≤ 700
  let c := { c with
    cj := ⟨(clampInt 0 15000 t).toNat, if pass then .valid else .fault, 0⟩
    cjCheck := if pass then .pass else .fail }
  if pass then c else c.markThermocouples

/-- The REF conversion: its reading, its check, and the marking of a failed check (R60, R61). -/
def Scanner.completeRef (c : Scanner) (v : Int) : Scanner :=
  let v := clampInt 0 1000 v
  let pass := 480 ≤ v ∧ v ≤ 520
  let c := { c with
    ref := ⟨v.toNat, if pass then .valid else .fault, 0⟩
    refCheck := if pass then .pass else .fail }
  if pass then c
  else
    let c := c.markThermocouples
    { c with fp := c.fp.mark, fc := c.fc.mark }

/-- Add a conversion's reading to an accumulation (R67). -/
def Accumulation.add (a : Accumulation) (v : Nat) : Accumulation := ⟨a.sum + v, a.count + 1⟩

/-- The average of an accumulation, or the reading's value where it holds no conversion (R67). -/
def Accumulation.average (a : Accumulation) (r : Reading) : Nat :=
  if a.count = 0 then r.value else a.sum / a.count

/-- The FP conversion; it is accumulated while the round timer runs (R64, R67). -/
def Scanner.completeFp (c : Scanner) (running : Bool) (f : Int) : Scanner :=
  let r := flowReading c.refCheck f c.fp
  { c with fp := r, fpAcc := if running then c.fpAcc.add r.value else c.fpAcc }

/-- The FC conversion. -/
def Scanner.completeFc (c : Scanner) (running : Bool) (f : Int) : Scanner :=
  let r := flowReading c.refCheck f c.fc
  { c with fc := r, fcAcc := if running then c.fcAcc.add r.value else c.fcAcc }

/-- The accumulations are closed at a window start: the averages handed over, and both emptied (R67). -/
def Scanner.closeWindow (c : Scanner) : Scanner :=
  { c with
    lastFp := c.fpAcc.average c.fp
    lastFc := c.fcAcc.average c.fc
    fpAcc := ⟨0, 0⟩
    fcAcc := ⟨0, 0⟩ }

/-- The next slot of the cycle starts (R55). -/
def Scanner.nextSlot (c : Scanner) : Scanner :=
  { c with channel := c.channel.next, half := .settling, openJudged := none }

/-- The burnout test of a thermocouple slot under way (R58). The other channels are not tested. -/
def Scanner.burnoutTest (c : Scanner) (loopOhms : Nat) : Scanner :=
  if c.channel.isThermocouple = true ∧ c.half = .settling then
    { c with half := .converting, openJudged := some (decide (Config.burnoutOhms < loopOhms)) }
  else c

/-! ### What the zone controller does with a completed thermocouple conversion -/

/-- Replace one zone's state. -/
def State.setZoneState (s : State) (z : ZoneId) (v : ZoneState) : State :=
  s.setZones { s.zones with zones := s.zones.zones.set z v }

/-- The condition on which a limit reading trips its zone (R84). -/
def tripCondition (overLimit : Nat) (r : Reading) : Bool :=
  match r.status with
  | .openCircuit => true
  | .over => true
  | .valid => decide (overLimit < r.value)
  | .under | .stale | .fault => false

/-- A zone's state at its trip: the latch, firing stopped, and the next window's duty 0 without a curtailed flag (R85). -/
def ZoneState.trip (v : ZoneState) : ZoneState :=
  { v with tripped := true, firingStopped := true, dutyNext := 0, curtailedNext := false }

/-- A zone trips: ZONE_TRIP is raised and the supervisor told (R85). -/
def State.tripZone (s : State) (z : ZoneId) : State :=
  ((s.setZoneState z (s.zones.zones.get z).trip).raise reasonZoneTrip).report

/-- A zone is judged while the station is not UNCONFIGURED and the zone is in use (R84, R88). -/
def State.judged (s : State) (z : ZoneId) : Bool :=
  decide (s.sup.station ≠ .unconfigured) && (s.store.zones.get z).inUse

/-- The hand-over of a completed limit conversion (R84). -/
def State.limitConverted (s : State) (z : ZoneId) (r : Reading) : State :=
  if s.judged z = true ∧ (s.zones.zones.get z).tripped = false ∧ tripCondition (s.store.zones.get z).overLimit r = true then
    s.tripZone z
  else s

/-- The open hold and the recovery count after a completed control conversion (R88, R89). -/
def ZoneState.controlConverted (v : ZoneState) (r : Reading) : ZoneState :=
  match r.status with
  | .openCircuit => { v with openHold := true, recovery := 0 }
  | .valid =>
    if v.openHold then
      if v.recovery + 1 < 3 then { v with recovery := v.recovery + 1 }
      else { v with openHold := false, recovery := 0 }
    else v
  | .over | .under | .stale | .fault => if v.openHold then { v with recovery := 0 } else v

/-- The hand-over of a completed control conversion; TC_OPEN is raised on entry into open hold (R88). -/
def State.controlConverted (s : State) (z : ZoneId) (r : Reading) : State :=
  if s.judged z then
    let v := s.zones.zones.get z
    (s.setZoneState z (v.controlConverted r)).raiseIf
      (!v.openHold && decide (r.status = .openCircuit)) reasonTcOpen
  else s

/-! ### The completion of a conversion -/

/-- The round timer runs: LISTENING or PHASED. -/
def State.timerRuns (s : State) : Bool := decide (s.timer.timer ≠ .stopped)

/-- The conversion of a control thermocouple completes (R57, R66). -/
def State.completeCt (s : State) (z : ZoneId) (t : Int) : State :=
  let c := s.scanner
  let r := thermocoupleReading (c.openJudged.getD false) c.cjCheck c.refCheck t (c.ct.get z)
  (s.setScanner { c with ct := c.ct.set z r }.nextSlot).controlConverted z r

/-- The conversion of a limit thermocouple completes (R57, R66). -/
def State.completeLt (s : State) (z : ZoneId) (t : Int) : State :=
  let c := s.scanner
  let r := thermocoupleReading (c.openJudged.getD false) c.cjCheck c.refCheck t (c.lt.get z)
  (s.setScanner { c with lt := c.lt.set z r }.nextSlot).limitConverted z r

/-- The conversion of the current channel completes with the measured value: the new reading replaces the old one, its
users are told, a check that enters FAIL raises SCAN_FAULT (R63), and the next slot starts (R55). -/
def State.conversionComplete (s : State) (m : Int) : State :=
  match s.scanner.channel with
  | .ct z => s.completeCt z m
  | .lt z => s.completeLt z m
  | .cj =>
    let c := s.scanner.completeCj m
    (s.setScanner c.nextSlot).raiseIf
      (decide (s.scanner.cjCheck ≠ .fail) && decide (c.cjCheck = .fail)) reasonScanFault
  | .fp => s.setScanner (s.scanner.completeFp s.timerRuns m).nextSlot
  | .fc => s.setScanner (s.scanner.completeFc s.timerRuns m).nextSlot
  | .ref =>
    let c := s.scanner.completeRef m
    (s.setScanner c.nextSlot).raiseIf
      (decide (s.scanner.refCheck ≠ .fail) && decide (c.refCheck = .fail)) reasonScanFault

end Sys2Proof.Machine
end

