-- ==== Sys2Proof/Machine/ShareUnit.lean ====
section
/-! DEFINITION. The share computation (chapter 3): the one procedure behind the bank power, bank nitrogen, zone power
and station nitrogen uses. -/

namespace Sys2Proof.Machine

/-- A claimant's firm figure, extra figure and priority (R39). -/
structure Claimant where
  firm     : Nat
  extra    : Nat
  priority : Nat
deriving DecidableEq, Repr

/-- A claimant's firm grant and extra grant (R39). -/
structure Grant where
  firm  : Nat
  extra : Nat
deriving DecidableEq, Repr

/-- A claimant's grant, firm and extra together (R42). -/
def Grant.total (g : Grant) : Nat := g.firm + g.extra

/-- The sum of the firm figures (R40). -/
def firmTotal (cs : List Claimant) : Nat := (cs.map Claimant.firm).sum

/-- X, the sum of the extra figures of one priority level (R41). -/
def levelExtra (cs : List Claimant) (p : Nat) : Nat :=
  ((cs.filter fun c => decide (c.priority = p)).map Claimant.extra).sum

/-- What the extra stage does at a level: serves it in full, scales it to the remainder it found, or gives nothing
below a scaled level (R41). -/
inductive LevelRule where
  | full
  | scaled (remainder total : Nat)
  | nothing
deriving DecidableEq, Repr

/-- A level's extra grant for an extra figure. -/
def LevelRule.grant : LevelRule → Nat → Nat
  | .full, x => x
  | .scaled r t, x => x * r / t
  | .nothing, _ => 0

/-- The extra stage from level `top - 1` down to level 0 with a remainder: the rule of a level (R41). A level with X = 0
is passed, which is to serve its claimants' extra figures of 0 in full. -/
def levelRule (cs : List Claimant) : Nat → Nat → Nat → LevelRule
  | 0, _, _ => .nothing
  | top + 1, r, p =>
    let x := levelExtra cs top
    if x ≤ r then
      if p = top then .full else levelRule cs top (r - x) p
    else if p = top then .scaled r x
    else .nothing

/-- One claimant's grant, from its own figures, the limit and sums over the list (R39 to R42). -/
def grantOf (limit : Nat) (cs : List Claimant) (c : Claimant) : Grant :=
  let total := firmTotal cs
  if total ≤ limit then ⟨c.firm, (levelRule cs 16 (limit - total) c.priority).grant c.extra⟩
  else ⟨c.firm * limit / total, 0⟩

/-- The share computation: every claimant's grant, in the list's order (R39). -/
def shareComputation (limit : Nat) (cs : List Claimant) : List Grant := cs.map (grantOf limit cs)

end Sys2Proof.Machine
end

