-- ==== Sys2Proof/Machine/ZoneControl.lean ====
section
/-! DEFINITION. The zone controller at the control position, at the window start and at half-cycle boundaries
(chapter 5), and RESET_TRIP's clearing of a trip. -/

namespace Sys2Proof.Machine

/-- Apply a function to every zone's state, with the zone at hand. -/
def State.mapZones (s : State) (f : ZoneId → ZoneState → ZoneState) : State :=
  s.setZones { s.zones with zones := PerZone.ofFn fun z => f z (s.zones.zones.get z) }

/-- A zone can be controlled: no trip latched, not in open hold, and its control reading VALID; its setpoint's presence is
judged beside it (R74). -/
def State.zoneReadable (s : State) (z : ZoneId) : Bool :=
  let v := s.zones.zones.get z
  !v.tripped && !v.openHold && (s.scanner.ct.get z).isValid

/-- The feed-forward term (R76). -/
def State.feedForward (s : State) (z : ZoneId) : Nat :=
  let cfg := s.store.zones.get z
  match s.loader.position with
  | some p =>
    if s.loader.direction = .inward ∧ (s.loader.state = .moving ∨ s.loader.state = .stopping ∨ s.loader.state = .dwell)
        ∧ cfg.spanStart ≤ p ∧ p < cfg.spanEnd then cfg.feedForward
    else 0
  | none => 0

/-- The error between a setpoint and a reading, clamped (R75). -/
def controlError (setpoint reading : Nat) : Int := clampInt (-2000) 2000 ((setpoint : Int) - (reading : Int))

/-- The integral after its update, or held (R75). -/
def updatedIntegral (ki : Nat) (e : Int) (hold : Bool) (i : Nat) : Nat :=
  if hold then i else (clampInt 0 1000 ((i : Int) + Int.tdiv ((ki : Int) * e) 100)).toNat

/-- The demand from the proportional term, the integral and the feed-forward (R75, R77). -/
def demandOf (kp : Nat) (e : Int) (i ff : Nat) : Nat :=
  (clampInt 0 1000 (Int.tdiv ((kp : Int) * e) 10 + (i : Int) + (ff : Int))).toNat

/-- The control law of one zone in use: integral, demand, power demand and class (R74 to R77). A zone not in use keeps
its values of R71. -/
def State.controlLaw (s : State) (z : ZoneId) (v : ZoneState) : ZoneState :=
  let cfg := s.store.zones.get z
  if cfg.inUse then
    let v := { v with zoneClass := if (s.ramp.zones.get z).state = RampState.rising then ZoneClass.rising else ZoneClass.firm }
    match (s.ramp.zones.get z).setpoint with
    | none => { v with integral := 0, demand := 0, powerDemand := 0 }
    | some sp =>
      if s.zoneReadable z then
        let e := controlError sp (s.scanner.ct.get z).value
        let hold := (v.curtailed && decide (0 < e)) || decide (s.sup.station = .halted) || decide (s.timer.mains = .lost)
        let i := updatedIntegral cfg.ki e hold v.integral
        let d := demandOf cfg.kp e i (s.feedForward z)
        { v with integral := i, demand := d, powerDemand := ceilDiv (d * cfg.rated) 1000 }
      else { v with demand := 0, powerDemand := 0 }
  else v

/-- The sum of the power demands of the zones in use of one class (R78). -/
def State.classDemand (s : State) (k : ZoneClass) : Nat :=
  (ZoneId.list.map fun z =>
    if (s.store.zones.get z).inUse = true ∧ (s.zones.zones.get z).zoneClass = k then (s.zones.zones.get z).powerDemand
    else 0).sum

/-- A zone is a claimant of the split: in use, no trip latched, and a setpoint present (R79). -/
def State.zoneClaims (s : State) (z : ZoneId) : Bool :=
  (s.store.zones.get z).inUse && !(s.zones.zones.get z).tripped && (s.ramp.zones.get z).setpoint.isSome

/-- A claimant zone's figures (R79). -/
def ZoneState.claimant (v : ZoneState) : Claimant :=
  match v.zoneClass with
  | .firm => ⟨v.powerDemand, 0, 0⟩
  | .rising => ⟨0, v.powerDemand, 0⟩

/-- The claimants of the zone split, in the order of the zones (R79). -/
def State.zoneClaimants (s : State) : List Claimant :=
  (ZoneId.list.filter s.zoneClaims).map fun z => (s.zones.zones.get z).claimant

/-- A zone's granted power (R79). -/
def State.zoneGrant (s : State) (z : ZoneId) : Nat :=
  if s.zoneClaims z then
    (grantOf s.share.powerGrant s.zoneClaimants (s.zones.zones.get z).claimant).total
  else 0

/-- Every duty fixed at this control position is 0 (R80). -/
def State.dutiesZero (s : State) : Bool :=
  decide (s.sup.station = .joining) || decide (s.sup.station = .halted) || decide (s.timer.mains = .lost)

/-- What the split fixes for one zone: granted power, duty and curtailed flag of the next window (R79, R80). -/
def State.fixDuty (s : State) (z : ZoneId) (v : ZoneState) : ZoneState :=
  let g := s.zoneGrant z
  { v with
    granted := g
    dutyNext := if s.dutiesZero then 0 else g * s.n / (s.store.zones.get z).rated
    curtailedNext := decide (g < v.powerDemand) }

/-- The zone controller's work at the control position: demands, power figures, split (R74 to R80). -/
def State.controlZones (s : State) : State :=
  let s := s.mapZones s.controlLaw
  let s := s.setZones { s.zones with powerFirm := s.classDemand .firm, powerExtra := s.classDemand .rising }
  s.mapZones s.fixDuty

/-- The hand-over of the duties at a window start (R81). -/
def ZoneState.handOver (v : ZoneState) : ZoneState :=
  { v with dutyRunning := v.dutyNext, curtailed := v.curtailedNext, fired := 0, firingStopped := false }

/-- The zone controller's work at a window start. -/
def State.handOverDuties (s : State) : State := s.mapZones fun _ v => v.handOver

/-- Whether the i-th half-cycle of a window carries one of its d fired half-cycles (R82). -/
def firesAt (n d i : Nat) : Bool := decide (i ≤ n) && patternExtra d i n

/-- The firing decision of one zone for the i-th half-cycle (R82). -/
def State.fireZone (s : State) (i : Nat) (z : ZoneId) (v : ZoneState) : ZoneState :=
  if firesAt s.n v.dutyRunning i = true ∧ v.firingStopped = false ∧ s.contactorClosed z = true then
    { v with gate := true, fired := v.fired + 1 }
  else { v with gate := false }

/-- The firing decisions at a half-cycle boundary of a PHASED window: the half-cycle that begins at count c is the
(c + 1)-th (R2, R82). -/
def State.fire (s : State) : State := s.mapZones (s.fireZone (s.timer.windowCount + 1))

/-- Firing stops in every zone, as on entry into MAINS_LOST (R5, R83). -/
def State.stopFiring (s : State) : State := s.mapZones fun _ v => { v with firingStopped := true, gate := false }

/-- A zone's limit reading allows its trip to be cleared: VALID and at most the limit minus 100 (R87). -/
def State.tripClearable (s : State) (z : ZoneId) : Bool :=
  (s.scanner.lt.get z).isValid && decide ((s.scanner.lt.get z).value + 100 ≤ (s.store.zones.get z).overLimit)

end Sys2Proof.Machine
end

