-- ==== Sys2Proof/Machine/Ramp.lean ====
section
/-! DEFINITION. The ramp generator (chapter 6). -/

namespace Sys2Proof.Machine

/-- Start value and target absent: the zone is not targeted. -/
def RampZone.untarget (v : RampZone) : RampZone := { v with start := none, target := none }

/-- The zone is targeted (section 6.1). -/
def RampZone.targeted (v : RampZone) : Bool := v.target.isSome

/-- A targeted zone is still moving when its setpoint differs from its target (R96). -/
def RampZone.stillMoving (v : RampZone) : Bool := v.targeted && decide (v.setpoint ≠ v.target)

/-- Where a targeted zone starts: its setpoint, or its VALID reading clamped to the zone's maximum, or 0 (R93). -/
def rampStart (maxTemp : Nat) (r : Reading) (setpoint : Option Nat) : Nat :=
  match setpoint with
  | some sp => sp
  | none => if r.isValid then clampNat 0 maxTemp r.value else 0

/-- One zone when a thermal part is taken (R92, R93). -/
def State.takeTarget (s : State) (t : ThermalSpec) (z : ZoneId) : RampZone :=
  let v := s.ramp.zones.get z
  let cfg := s.store.zones.get z
  match t.targets.get z with
  | some g =>
    if cfg.inUse then
      let st := rampStart cfg.maxTemp (s.scanner.ct.get z) v.setpoint
      { v with setpoint := some st, start := some st, target := some (clampNat 0 cfg.maxTemp g) }
    else v.untarget
  | none => v.untarget

/-- Every zone untargeted, the setpoints kept (R94). DESIGN CHOICE: the complete flag and the rest of the progress record keep
their values after the part has left, which R94 and R103 do not give (unsafe; log entry 27). -/
def Ramp.untargetAll (r : Ramp) : Ramp :=
  { r with zones := PerZone.ofFn fun z => (r.zones.get z).untarget, partCurrent := false }

/-- A thermal part is taken, or the segment that becomes current carries none (R92, R93). -/
def State.takeThermal (s : State) (t : Option ThermalSpec) : State :=
  match t with
  | none => s.setRamp s.ramp.untargetAll
  | some t => s.setRamp
    { zones := PerZone.ofFn (s.takeTarget t)
      partCurrent := true
      rate := clampNat 0 1000 t.rate
      guardBand := clampNat 0 500 t.guardBand
      pattern := 1
      held := false
      causes := HoldCauses.empty
      complete := false
      largestDeviation := 0 }

/-- Amended rate and guard band reach the part if one is current (R104). -/
def Ramp.amend (a : AmendFields) (r : Ramp) : Ramp :=
  if r.partCurrent then
    { r with
      rate := (a.rate.map (clampNat 0 1000)).getD r.rate
      guardBand := (a.guardBand.map (clampNat 0 500)).getD r.guardBand }
  else r

/-- The increment of an unheld step at pattern position i (R98). -/
def rampIncrement (rate i : Nat) : Nat := rate / 60 + (if patternExtra (rate % 60) i 60 then 1 else 0)

/-- A setpoint moves toward its target by k and stops on it (R98). -/
def moveSetpoint (k target sp : Nat) : Nat :=
  if sp < target then min (sp + k) target else max (sp - k) target

/-- One zone's move at an unheld step; a rate of 0 takes the target at once (R98, R99). -/
def RampZone.move (rate i : Nat) (v : RampZone) : RampZone :=
  match v.target, v.setpoint with
  | some t, some sp =>
    { v with setpoint := some (if rate = 0 then t else moveSetpoint (rampIncrement rate i) t sp) }
  | _, _ => v

/-- One zone's ramp state by its setpoint and its target (R100). -/
def RampZone.setState (v : RampZone) : RampZone :=
  { v with
    state := match v.target, v.setpoint with
      | some t, some sp => if sp < t then .rising else if t < sp then .falling else .steady
      | _, _ => .steady }

/-- A VALID reading of a zone and its setpoint, as the guard and the deviation compare them. -/
def State.deviation (s : State) (z : ZoneId) : Option Nat :=
  match (s.ramp.zones.get z).setpoint with
  | some sp => if (s.scanner.ct.get z).isValid then some (absDiff sp (s.scanner.ct.get z).value) else none
  | none => none

/-- The hold causes of a step, under the station state the step reads (R96). The curtailed flag is the one for the window
now beginning, which stands in the running flag once R81's hand-over has been taken. -/
def State.holdCauses (s : State) (station : StationState) : HoldCauses where
  curtailed := ZoneId.list.any fun z =>
    (s.ramp.zones.get z).targeted && decide ((s.ramp.zones.get z).state = .rising) && (s.zones.zones.get z).curtailed
  guard := decide (s.ramp.guardBand ≠ 0) && ZoneId.list.any fun z =>
    (s.ramp.zones.get z).stillMoving && match s.deviation z with
      | some d => decide (s.ramp.guardBand < d)
      | none => false
  reading := ZoneId.list.any fun z => (s.ramp.zones.get z).stillMoving && !s.zoneReadable z
  station := decide (station = .held) || decide (station = .halted) || decide (s.timer.mains = .lost)

/-- The step is held: some cause holds (R96). -/
def HoldCauses.any (c : HoldCauses) : Bool := c.curtailed || c.guard || c.reading || c.station

/-- The largest deviation after a step, measured on the targeted zones before the move (R101). -/
def State.stepDeviation (s : State) : Nat :=
  ZoneId.list.foldl
    (fun m z => if (s.ramp.zones.get z).targeted then max m ((s.deviation z).getD 0) else m) s.ramp.largestDeviation

/-- One zone does not stand in the way of completion: STEADY if targeted and, under a guard band, with a VALID reading
within the band of its target (R102). -/
def State.zoneSettled (s : State) (guardBand : Nat) (z : ZoneId) (v : RampZone) : Bool :=
  match v.target with
  | none => true
  | some t =>
    decide (v.state = .steady) &&
      (decide (guardBand = 0) ||
        ((s.scanner.ct.get z).isValid && decide (absDiff (s.scanner.ct.get z).value t ≤ guardBand)))

/-- The ramp step of a current part (R95 to R102). -/
def State.partStep (s : State) (station : StationState) : Ramp :=
  let r := s.ramp
  let causes := s.holdCauses station
  let held := causes.any
  let zones := PerZone.ofFn fun z =>
    ((if held then r.zones.get z else (r.zones.get z).move r.rate r.pattern).setState)
  { r with
    zones := zones
    pattern := if held then r.pattern else if r.pattern < 60 then r.pattern + 1 else 1
    held := held
    causes := causes
    largestDeviation := s.stepDeviation
    complete := r.complete || (!held && ZoneId.list.all fun z => s.zoneSettled r.guardBand z (zones.get z)) }

/-- The ramp step of a window start (R95), under the station state it reads. -/
def State.rampStep (s : State) : State :=
  if s.ramp.partCurrent then
    let r := s.partStep s.sup.station
    let s := s.setRamp r
    match s.exec.current with
    | some c =>
      if r.causes.curtailed = true ∧ c.record.thermal.isSome = true then
        s.setExec { s.exec with current := some { c with curtailedWindows := satAdd1 65535 c.curtailedWindows } }
      else s
    | none => s
  else
    s.setRamp { s.ramp with zones := PerZone.ofFn fun z => { s.ramp.zones.get z with state := .steady } }

end Sys2Proof.Machine
end

