-- ==== Sys2Proof/Machine/Gas.lean ====
section
/-! DEFINITION. The gas unit (chapter 7). -/

namespace Sys2Proof.Machine

/-! ### The control position -/

/-- The curtain is required: the station neither UNCONFIGURED nor JOINING, and the boat not sealed (R109). -/
def State.curtainRequired (s : State) : Bool :=
  decide (s.sup.station ≠ .unconfigured) && decide (s.sup.station ≠ .joining) && !s.sealed

/-- The purge demand and the part flow flag it goes with (R110). -/
def State.purgeDemand (s : State) : Nat × Bool :=
  if (s.sup.station = .running ∨ s.sup.station = .held) ∧ s.gas.part.current = true ∧ s.gas.part.complete = false then
    (s.gas.part.flow, true)
  else if s.sup.station = .unconfigured ∨ s.sup.station = .joining then (0, false)
  else (s.store.gas.idlePurge, false)

/-- The curtain's claimant in the station-nitrogen use (R112). -/
def curtainClaimant (firm : Nat) : Claimant := ⟨firm, 0, 0⟩

/-- The purge's claimant in the station-nitrogen use (R112). -/
def purgeClaimant (demand : Nat) : Claimant := ⟨0, demand, 0⟩

/-- The station-nitrogen split over a grant (R112). -/
def nitrogenSplit (limit firm demand : Nat) (partFlow : Bool) : Commanded :=
  let cs := [curtainClaimant firm, purgeClaimant demand]
  { curtain := (grantOf limit cs (curtainClaimant firm)).total
    purge := (grantOf limit cs (purgeClaimant demand)).total
    partFlow := partFlow }

/-- The gas unit's work at the control position (R109 to R113). -/
def State.controlGas (s : State) : State :=
  let required := s.curtainRequired
  let d := s.purgeDemand
  let firm := if required then s.store.gas.curtainFlow else 0
  let next :=
    if s.sup.station = .unconfigured ∨ s.sup.station = .joining then ⟨0, 0, d.2⟩
    else nitrogenSplit s.share.nitrogenGrant firm d.1 d.2
  s.setGas { s.gas with
    required := required
    purgeDemand := d.1
    nitrogenFirm := firm
    nitrogenExtra := d.1
    next := next }

/-! ### The gas part -/

/-- A gas part is taken, and the running window is the one of its taking (R115); or the segment that becomes current carries
none, and part current is no and the volume 0 (R111). DESIGN CHOICE: without a gas part the record keeps the old part's flow,
litres, target and complete flag, which R111 gives only until that instant (unsafe; log entry 30). -/
def State.takeGas (s : State) (g : Option GasSpec) : State :=
  match g with
  | some g => s.setGas { s.gas with
      part := ⟨true, g.flow, g.litres, g.litres * s.halfCyclesPerLitre, 0, false⟩
      takenInWindow := true }
  | none => s.setGas { s.gas with part := { s.gas.part with current := false, volume := 0 } }

/-- The gas part leaves with its segment, its volume, target and complete flag as they were (R111). DESIGN CHOICE: so do its
flow and litres, which R111 does not name (unsafe; log entry 30). -/
def Gas.leavePart (g : Gas) : Gas := { g with part := { g.part with current := false } }

/-- An amended purge flow reaches the part if it is current (R111). -/
def Gas.amend (a : AmendFields) (g : Gas) : Gas :=
  if g.part.current then { g with part := { g.part with flow := (a.purgeFlow.map (clampNat 0 200)).getD g.part.flow } }
  else g

/-! ### The window start -/

/-- The ended window counts toward the gas part (R115): its flows were commanded for this part, as the running part flow flag
says unless the part was taken in that window, whose flag was fixed before the part began. -/
def State.windowCountsForGas (s : State) : Bool :=
  s.gas.part.current && !s.gas.part.complete && (s.gas.running.partFlow && !s.gas.takenInWindow)
    && decide (s.sup.station ≠ .halted)

/-- The purge volume and the part's completion (R115, R116). -/
def State.countVolume (s : State) : State :=
  let p := s.gas.part
  let volume := if s.windowCountsForGas then p.volume + s.scanner.lastFp * s.timer.lastLength else p.volume
  s.setGas { s.gas with
    part := { p with
      volume := volume
      complete := p.complete || (p.current && decide (p.target ≤ volume)) } }

/-- The judgement of the flow fault (R117). -/
def State.judgeFlow (s : State) : State :=
  let c := s.gas.running.purge
  if 4 ≤ c ∧ 2 * s.scanner.lastFp < c then
    let count := if s.gas.faultCount < 10 then s.gas.faultCount + 1 else 10
    let reaches := decide (s.gas.faultCount < 10) && decide (count = 10)
    (s.setGas { s.gas with
      faultCount := count
      faultReported := s.gas.faultReported || reaches }).raiseIf (reaches && !s.gas.faultReported) reasonFlowFault
  else s.setGas { s.gas with faultCount := 0, faultReported := false }

/-- The curtain is lost: the loss is handed to the loader, and CURTAIN_LOST is raised when it is in motion (R119). -/
def State.loseCurtain (s : State) : State :=
  let s := s.setGas { s.gas with established := false, lost := true, good := 0, bad := 0 }
  (s.raiseIf s.loader.inMotion reasonCurtainLost).setLoader s.loader.curtainLost

/-- The curtain is established, and the establishment handed to the loader (R118, R135). -/
def State.establishCurtain (s : State) : State :=
  let s := s.setGas { s.gas with established := true, lost := false, good := 0, bad := 0 }
  s.setLoader s.loader.curtainEstablished

/-- The judgement of the curtain over the ended window (R118, R119). -/
def State.judgeCurtain (s : State) : State :=
  let good := decide (s.store.gas.curtainMin ≤ s.scanner.lastFc)
  match s.gas.established, good with
  | false, true =>
    if s.gas.good + 1 < 3 then s.setGas { s.gas with good := s.gas.good + 1 } else s.establishCurtain
  | false, false => s.setGas { s.gas with good := 0 }
  | true, true => s.setGas { s.gas with bad := 0 }
  | true, false =>
    if s.gas.bad + 1 < 2 then s.setGas { s.gas with bad := s.gas.bad + 1 } else s.loseCurtain

/-- The hand-over of the commanded flows (R113). No part has yet been taken in the window that begins (R115). -/
def State.handOverFlows (s : State) : State := s.setGas { s.gas with running := s.gas.next, takenInWindow := false }

end Sys2Proof.Machine
end

