-- ==== Sys2Proof/Machine/Executor.lean ====
section
/-! DEFINITION. The segment executor at the sequence position and at the window start (chapter 9), with the end of
JOINING that falls at the same position (R162). -/

namespace Sys2Proof.Machine

/-! ### First step: the amend shadow -/

/-- The amend fields whose part is present in a segment record; the others are discarded (R147). -/
def AmendFields.restrict (a : AmendFields) (g : Segment) : AmendFields where
  rate := if g.thermal.isSome then a.rate else none
  guardBand := if g.thermal.isSome then a.guardBand else none
  purgeFlow := if g.gas.isSome then a.purgeFlow else none
  boatSpeed := if g.boat.isSome then a.boatSpeed else none
  dwellBand := if g.boat.isSome then a.dwellBand else none

/-- A segment record with its present fields replaced by the amended ones (R147). -/
def Segment.amend (g : Segment) (a : AmendFields) : Segment :=
  { g with
    thermal := g.thermal.map fun t =>
      { t with rate := a.rate.getD t.rate, guardBand := a.guardBand.getD t.guardBand }
    gas := g.gas.map fun p => { p with flow := a.purgeFlow.getD p.flow }
    boat := g.boat.map fun b =>
      { b with speed := a.boatSpeed.getD b.speed, dwellBand := a.dwellBand.getD b.dwellBand } }

/-- The amend shadow is applied to the current segment and handed to the owning blocks, and becomes absent (R147). -/
def State.applyShadow (s : State) : State :=
  match s.exec.current with
  | none => s.setExec { s.exec with shadow := AmendFields.absent }
  | some c =>
    let a := s.exec.shadow.restrict c.record
    let s := s.setExec { s.exec with
      current := some { c with record := c.record.amend a }
      shadow := AmendFields.absent }
    let s := s.setRamp (s.ramp.amend a)
    let s := s.setGas (s.gas.amend a)
    s.setLoader (s.loader.amend s.store.loader.maxSpeed a)

/-! ### Second step: the urgent command -/

/-- The urgent slot becomes empty with the command's result (R148). -/
def State.finishUrgent (s : State) (r : UrgentResult) : State :=
  s.setExec { s.exec with urgent := none, lastResult := r }

/-- SKIP applies in RUNNING or HELD with a segment current (R149). -/
def State.takeSkip (s : State) : State :=
  match s.exec.current with
  | some c =>
    if s.sup.station = .running ∨ s.sup.station = .held then
      ((s.setExec { s.exec with current := some { c with skipPending := true } }).addCause .skip).finishUrgent .taken
    else s.finishUrgent .ignored
  | none => s.finishUrgent .ignored

/-- HOLD applies in RUNNING or IDLE (R150). -/
def State.takeHold (s : State) : State :=
  if s.sup.station = .running ∨ s.sup.station = .idle then s.enterHeld.finishUrgent .taken
  else s.finishUrgent .ignored

/-- RESUME applies in HELD with no trip latched and the HALT line not asserted (R150). -/
def State.takeResume (s : State) : State :=
  if s.sup.station = .held ∧ s.anyTrip = false ∧ s.sup.haltAsserted = false then s.resume.finishUrgent .taken
  else s.finishUrgent .ignored

/-- FLUSH empties the queue in every state (R151). -/
def State.takeFlush (s : State) : State := (s.setExec { s.exec with queue := [] }).finishUrgent .taken

/-- The command in the urgent slot is taken (R148 to R151). -/
def State.takeUrgent (s : State) : State :=
  match s.exec.urgent with
  | none => s
  | some .skip => s.takeSkip
  | some .hold => s.takeHold
  | some .resume => s.takeResume
  | some .flush => s.takeFlush

/-! ### Third step: the end of the current segment and the start of the next -/

/-- Every part present is complete and the minimum duration has passed (R154). -/
def State.segmentComplete (s : State) (c : CurrentSegment) : Bool :=
  (c.record.thermal.isNone || s.ramp.complete) && (c.record.gas.isNone || s.gas.part.complete)
    && (c.record.boat.isNone || s.loader.part.complete) && decide (c.record.minDuration ≤ c.windows)

/-- A skip-pending segment may end: it has no boat part, or the loader is AT_REST, WAIT_CURTAIN, DWELL or STALLED
(R149). -/
def State.skipMayEnd (s : State) (c : CurrentSegment) : Bool :=
  c.record.boat.isNone || !s.loader.inMotion

/-- The outcome record of a segment at its end (R157). -/
def State.outcomeOf (s : State) (c : CurrentSegment) (r : SegmentResult) : OutcomeRecord where
  id := c.record.id
  result := r
  windows := c.windows
  heldWindows := c.heldWindows
  curtailedWindows := c.curtailedWindows
  dwellTotal := if c.record.boat.isSome then s.loader.dwellTotal else 0
  litres := if c.record.gas.isSome then s.gas.part.volume / s.halfCyclesPerLitre else 0
  largestDeviation := if c.record.thermal.isSome then s.ramp.largestDeviation else 0

/-- The current segment ends: its outcome is written, SEGMENT_DONE raised, and its parts leave (R155, R157). -/
def State.endSegment (s : State) (c : CurrentSegment) (r : SegmentResult) : State :=
  let s := s.setExec { s.exec with outcomes := (s.outcomeOf c r :: s.exec.outcomes).take 8 }
  let s := s.raise reasonSegmentDone
  let s := s.setRamp s.ramp.untargetAll
  let s := s.setGas s.gas.leavePart
  let s := s.setLoader s.loader.leavePart
  s.setExec { s.exec with current := none }

/-- The head of the queue becomes current: its parts are handed to their blocks and the queue-low mark is judged (R144,
R156). -/
def State.startHead (s : State) (g : Segment) (rest : List Segment) : State :=
  let s := s.setExec { s.exec with queue := rest, current := some ⟨g, 0, 0, 0, false⟩ }
  let s := s.takeThermal g.thermal
  let s := s.takeGas g.gas
  let s := s.setLoader (s.loader.takePart s.gas.established g.boat)
  s.raiseIf (decide (0 < s.exec.lowMark) && decide (rest.length ≤ s.exec.lowMark)) reasonQueueLow

/-- After a segment's end in RUNNING the head becomes current, or the station goes to IDLE with QUEUE_EMPTY (R156). -/
def State.afterEnd (s : State) : State :=
  if s.sup.station = .running then
    match s.exec.queue with
    | [] => (s.setStation .idle).raise reasonQueueEmpty
    | g :: rest => s.startHead g rest
  else s

/-- The third step of the sequence position (R149, R154 to R156). -/
def State.judgeSegment (s : State) : State :=
  match s.exec.current with
  | some c =>
    if c.skipPending then
      if (s.sup.station = .running ∨ s.sup.station = .held ∨ s.sup.station = .halted) ∧ s.skipMayEnd c = true then
        (s.endSegment c .skipped).afterEnd
      else s
    else if s.sup.station = .running ∧ s.segmentComplete c = true then (s.endSegment c .done).afterEnd
    else s
  | none =>
    if s.sup.station = .idle then
      match s.exec.queue with
      | [] => s
      | g :: rest => (s.setStation .running).startHead g rest
    else s

/-- The executor's three steps at the sequence position, in their order (R145). -/
def State.executorSequence (s : State) : State := s.applyShadow.takeUrgent.judgeSegment

/-- The end of JOINING: to IDLE, or to HELD when a trip is latched (R162). -/
def State.endJoining (s : State) : State :=
  if s.sup.station = .joining ∧ s.sup.joiningCount = 2 then
    if s.anyTrip then s.enterHeld else s.setStation .idle
  else s

/-- All work of the sequence position. Where JOINING ends at it, that change and the executor's work are taken in either
order (R156, R162): where the orders differ, a free value chooses. -/
def State.sequenceWork (s : State) : State :=
  if s.sup.station = .joining ∧ s.sup.joiningCount = 2 then
    let a := s.endJoining.executorSequence
    let b := s.executorSequence.endJoining
    (if a = b then a else if Config.joinFirst s.freeIndex then a else b).setFreeIndex (s.freeIndex + 1)
  else s.executorSequence

/-- The window that has ended is counted toward the current segment (R152). -/
def State.countWindow (s : State) : State :=
  match s.exec.current with
  | some c =>
    if s.sup.station = .running then
      s.setExec { s.exec with current := some { c with windows := satAdd1 65535 c.windows } }
    else if s.sup.station = .held then
      s.setExec { s.exec with current := some { c with heldWindows := satAdd1 65535 c.heldWindows } }
    else s
  | none => s

end Sys2Proof.Machine
end

