-- ==== Sys2Proof/Machine/BankLink.lean ====
section
/-! DEFINITION. The bank link (chapter 2), the phase judgement of its arrivals (section 1.6), and the share unit's bank
computations over its claimant lists (section 3.4). -/

namespace Sys2Proof.Machine

/-! ### Frames (R178) -/

/-- The number a station state has in frames and replies (section 12.1). -/
def StationState.code : StationState → Nat
  | .unconfigured => 0
  | .joining => 1
  | .idle => 2
  | .running => 3
  | .held => 4
  | .halted => 5

/-- The station state an ANNOUNCE's state nibble names; 0 and 6 to 15 name none (R178). -/
def announcedState? : Nat → Option StationState
  | 1 => some .joining
  | 2 => some .idle
  | 3 => some .running
  | 4 => some .held
  | 5 => some .halted
  | _ => none

/-- Two 12-bit figures in three bytes, the first in the upper 12 bits (R177, R178). -/
def pack12 (a b : Nat) : List Byte :=
  [BitVec.ofNat 8 (a / 16), BitVec.ofNat 8 (a % 16 * 16 + b / 256 % 16), BitVec.ofNat 8 (b % 256)]

/-- The upper of two 12-bit figures in three bytes. -/
def upper12 (x y : Byte) : Nat := x.toNat * 16 + y.toNat / 16

/-- The lower of two 12-bit figures in three bytes. -/
def lower12 (y z : Byte) : Nat := y.toNat % 16 * 256 + z.toNat

/-- The 8 data bytes of an ANNOUNCE (R178). -/
def announceBytes (r : OwnRecord) : List Byte :=
  [BitVec.ofNat 8 r.round, BitVec.ofNat 8 (r.figures.station.code * 16 + r.figures.priority % 16)]
    ++ pack12 r.figures.powerFirm r.figures.powerExtra
    ++ [BitVec.ofNat 8 r.figures.nitrogenFirm, BitVec.ofNat 8 r.figures.nitrogenExtra, BitVec.ofNat 8 r.signature]

/-- What an arriving ANNOUNCE says: round, figures, signature (R178). -/
structure Announced where
  round     : Nat
  figures   : Figures
  signature : Nat
deriving DecidableEq, Repr

/-- Read an ANNOUNCE's data: none when the length is not 8 bytes or the state code is unknown (R24, R178). -/
def readAnnounce? : List Byte → Option Announced
  | [r, st, a, b, c, nf, ne, sig] =>
    (announcedState? (st.toNat / 16)).map fun q =>
      ⟨r.toNat, ⟨q, st.toNat % 16, upper12 a b, lower12 b c, nf.toNat, ne.toNat⟩, sig.toNat⟩
  | _ => none

/-- What the transmit buffer holds: the own ANNOUNCE while its record is PENDING, or the pending LEAVE, or nothing (R17,
R18, R23). -/
def BankLink.transmitBuffer (b : BankLink) : Option CanFrame :=
  if b.record.status = .pending then
    some ⟨BitVec.ofNat 11 (0x640 + b.ownNumber.val), false, announceBytes b.record⟩
  else b.pendingLeave.map fun sig => ⟨BitVec.ofNat 11 (0x650 + b.ownNumber.val), false, [BitVec.ofNat 8 sig]⟩

/-! ### Signature and own announcement -/

/-- The configuration signature of the bank figures (R16). -/
def BankFigures.signature (b : BankFigures) : Nat :=
  (b.powerLimit / 256 + b.powerLimit % 256 + b.headerCapacity + b.stationCount + b.mainsCode) % 256

/-- The lowest-numbered heard station as phase candidate, if it is a peer that disagreed (R11). -/
def candidateOf (own : StationNo) (ownHeard : Bool) (judged : PerEight (Option Judged)) : List (Fin 8) → Option Candidate
  | [] => none
  | i :: rest =>
    if i = own then (if ownHeard then none else candidateOf own ownHeard judged rest)
    else
      match judged.get i with
      | some j =>
        if j.heard then (if j.disagrees then some ⟨i, j.count, j.round⟩ else none)
        else candidateOf own ownHeard judged rest
      | none => candidateOf own ownHeard judged rest

/-- The phase candidate is re-evaluated (R11). -/
def State.reevaluate (s : State) : State :=
  s.setTimer { s.timer with candidate := candidateOf s.bank.ownNumber s.timer.ownHeard s.timer.judged eightNumbers }

/-- The own ANNOUNCE of the round counts as sent (R19, R20, R34). -/
def State.ownSent (s : State) : State :=
  let s := s.setBank { s.bank with
    record := { s.bank.record with status := .sent }
    unsent := 0
    solo := false }
  (s.setTimer { s.timer with ownHeard := true }).reevaluate

/-- The figures the own announcement carries (R18). -/
def State.ownFigures (s : State) : Figures :=
  let dark := s.sup.station = .joining ∨ s.sup.station = .halted
  { station := s.sup.station
    priority := s.store.bank.priority
    powerFirm := if dark then 0 else s.zones.powerFirm
    powerExtra := if dark then 0 else s.zones.powerExtra
    nitrogenFirm := s.gas.nitrogenFirm
    nitrogenExtra := s.gas.nitrogenExtra }

/-- The own slot: the record is filled and its frame queued, or sent at once with a station count of 1 (R18, R19). -/
def State.slotWork (s : State) : State :=
  let s := s.setBank { s.bank with record := ⟨.pending, s.timer.round, s.ownFigures, s.bank.signature⟩ }
  if s.store.bank.stationCount = 1 then s.ownSent else s

/-! ### Arrivals -/

/-- The kinds of frame the first checks of R24 leave. -/
inductive FrameKind where
  | other | announce | leave
deriving DecidableEq, Repr

/-- Sort a frame by its identifier; a remote frame is neither kind (R24). -/
def frameKind (f : CanFrame) : FrameKind :=
  if f.remote then .other
  else if 0x640 ≤ f.identifier.toNat ∧ f.identifier.toNat ≤ 0x647 then .announce
  else if 0x650 ≤ f.identifier.toNat ∧ f.identifier.toNat ≤ 0x657 then .leave
  else .other

/-- The sender's number: the identifier less 0x640 or 0x650, both multiples of 8 (R24). -/
def frameSender (f : CanFrame) : StationNo := Fin.ofNat 8 f.identifier.toNat

/-- The presence of an entry after an accepted ANNOUNCE (R26). -/
def presenceAfter (equal : Bool) : Presence := if equal then .fresh else .mismatch

/-- The phase judgement of an accepted ANNOUNCE while PHASED (R10, R11). -/
def State.judgePhase (s : State) (i : StationNo) (a : Announced) (equal : Bool) : State :=
  if s.timer.windowCount < s.n then
    let p := s.timer.windowCount
    let disagrees := decide (a.round ≠ s.timer.round) || decide (2 ≤ absDiff p (slotOf i))
    let wasHeard := match s.timer.judged.get i with
      | some j => j.heard
      | none => false
    let s := s.setTimer { s.timer with judged := s.timer.judged.set i (some ⟨p, a.round, disagrees, wasHeard || equal⟩) }
    let e := s.bank.peers.get i
    let entry : PeerEntry := { e with agrees := !disagrees }
    let s := s.setBank { s.bank with peers := s.bank.peers.set i entry }
    s.reevaluate
  else s

/-- The listening record an accepted ANNOUNCE with the own signature leaves (R8). -/
def State.recordListening (s : State) (i : StationNo) (a : Announced) (equal : Bool) : State :=
  if equal = true ∧ s.timer.windowCount < s.n then
    s.setTimer { s.timer with listening := s.timer.listening.set i (some ⟨s.timer.windowCount, a.round⟩) }
  else s

/-- An accepted ANNOUNCE (R25 to R27), with its listening record (R8) or its phase judgement (R10). -/
def State.acceptAnnounce (s : State) (i : StationNo) (a : Announced) : State :=
  let e := s.bank.peers.get i
  let equal := decide (a.signature = s.bank.signature)
  let phased := decide (s.timer.timer = .phased)
  let entry : PeerEntry :=
    { e with
      presence := presenceAfter equal
      heard := phased && decide (a.round = s.timer.round)
      lastRound := a.round
      age := 0
      figures := a.figures }
  let s := s.setBank { s.bank with peers := s.bank.peers.set i entry }
  let s := s.raiseIf (decide (e.presence = .absent) || decide (e.presence = .stale)) reasonPeerChange
  let s := s.raiseIf (!equal && decide (e.presence ≠ .mismatch)) reasonConfigMismatch
  if phased then s.judgePhase i a equal else s.recordListening i a equal

/-- An accepted LEAVE (R28). -/
def State.acceptLeave (s : State) (i : StationNo) (signature : Nat) : State :=
  if signature = s.bank.signature then
    let e := s.bank.peers.get i
    let entry : PeerEntry := { e with presence := .absent }
    let s := s.setBank { s.bank with peers := s.bank.peers.set i entry }
    s.raiseIf (decide (e.presence ≠ .absent)) reasonPeerChange
  else s.raise reasonConfigMismatch

/-- A frame with the own number (R31). -/
def State.duplicateFrame (s : State) : State :=
  (s.setBank { s.bank with duplicateHold := 10 }).raise reasonDuplicateStation

/-- An ANNOUNCE of a peer after the check of its sender against the own number (R24). -/
def State.announceFrom (s : State) (i : StationNo) (data : List Byte) : State :=
  if data.length ≠ 8 then s
  else if s.store.bank.stationCount ≤ i.val then s.raise reasonConfigMismatch
  else
    match readAnnounce? data with
    | some a => s.acceptAnnounce i a
    | none => s

/-- A LEAVE of a peer after the check of its sender against the own number (R24). -/
def State.leaveFrom (s : State) (i : StationNo) (data : List Byte) : State :=
  match data with
  | [sig] =>
    if s.store.bank.stationCount ≤ i.val then s.raise reasonConfigMismatch else s.acceptLeave i sig.toNat
  | _ => s

/-- An arriving frame is received while the round timer runs (R17) and sorted by R24. -/
def State.frameArrives (s : State) (f : CanFrame) : State :=
  if s.timer.timer = .stopped then s
  else
    match frameKind f with
    | .other => s
    | .announce => if frameSender f = s.bank.ownNumber then s.duplicateFrame else s.announceFrom (frameSender f) f.data
    | .leave => if frameSender f = s.bank.ownNumber then s.duplicateFrame else s.leaveFrom (frameSender f) f.data

/-! ### The window start -/

/-- A peer table entry ages (R29). -/
def PeerEntry.aged (e : PeerEntry) : PeerEntry :=
  match e.presence with
  | .absent => { e with heard := false }
  | .fresh =>
    let age := satAdd1 255 e.age
    { e with heard := false, age := age, presence := if age = 3 then .stale else .fresh }
  | .stale | .mismatch => { e with heard := false, age := satAdd1 255 e.age }

/-- The bank link's work at a window start: the own record returns to NONE (R22), the table ages (R29), and the duplicate
hold decreases (R32). -/
def State.bankWindowStart (s : State) : State :=
  let b := s.bank
  let peers := PerEight.ofFn fun i => (b.peers.get i).aged
  (s.setBank { b with
    record := { b.record with status := .none }
    peers := peers
    duplicateHold := b.duplicateHold - 1 }).raiseIf
    (eightNumbers.any fun i =>
      decide ((b.peers.get i).presence = .fresh) && decide ((peers.get i).presence = .stale)) reasonPeerChange

/-! ### The share position -/

/-- A PENDING own ANNOUNCE is dropped (R21), and an unsent round counted (R33). -/
def State.closeRound (s : State) : State :=
  let b := s.bank
  if b.record.status = .sent then s
  else
    let unsent := if b.unsent < 3 then b.unsent + 1 else 3
    let reaches := decide (b.unsent < 3) && decide (unsent = 3)
    (s.setBank { b with
      record := { b.record with status := if b.record.status = .pending then .dropped else b.record.status }
      unsent := unsent
      solo := b.solo || decide (unsent = 3) }).raiseIf reaches reasonSolo

/-- The two resources of the bank. -/
inductive Resource where
  | power | nitrogen
deriving DecidableEq, Repr

/-- A resource's limit: the bank power limit or the header capacity (R44). -/
def State.limitOf (s : State) : Resource → Nat
  | .power => s.store.bank.powerLimit
  | .nitrogen => s.store.bank.headerCapacity

/-- The firm figure of a resource. -/
def Figures.firmOf (f : Figures) : Resource → Nat
  | .power => f.powerFirm
  | .nitrogen => f.nitrogenFirm

/-- The extra figure of a resource. -/
def Figures.extraOf (f : Figures) : Resource → Nat
  | .power => f.powerExtra
  | .nitrogen => f.nitrogenExtra

/-- How a peer table entry is counted (R35). -/
def PeerEntry.claimant (e : PeerEntry) (q : Resource) (fallback : Nat) : Option Claimant :=
  match e.presence with
  | .absent => none
  | .fresh => some ⟨e.figures.firmOf q, e.figures.extraOf q, e.figures.priority⟩
  | .stale | .mismatch => some ⟨fallback, 0, e.figures.priority⟩

/-- How the own station is counted (R36). -/
def State.ownClaimant (s : State) (q : Resource) : Claimant :=
  if s.bank.record.status = .sent then
    ⟨s.bank.record.figures.firmOf q, s.bank.record.figures.extraOf q, s.store.bank.priority⟩
  else ⟨s.fallback (s.limitOf q), 0, s.store.bank.priority⟩

/-- The claimants of the peers (R35). -/
def State.peerClaimants (s : State) (q : Resource) : List Claimant :=
  (eightNumbers.filter fun i => decide (i ≠ s.bank.ownNumber)).filterMap fun i =>
    (s.bank.peers.get i).claimant q (s.fallback (s.limitOf q))

/-- The claimant list of a resource, the own station first (R44). -/
def State.claimants (s : State) (q : Resource) : List Claimant := s.ownClaimant q :: s.peerClaimants q

/-- The own grant and own firm grant of a resource, after the duplicate-hold cap (R46, R47). -/
def State.bankGrant (s : State) (q : Resource) : Nat × Nat :=
  let g := grantOf (s.limitOf q) (s.claimants q) (s.ownClaimant q)
  if 0 < s.bank.duplicateHold then
    let total := min g.total (s.fallback (s.limitOf q))
    (total, min g.firm total)
  else (g.total, g.firm)

/-- The share unit's work: both bank computations, cap and shortfall (R44 to R48). -/
def State.shareUnitWork (s : State) : State :=
  let p := s.bankGrant .power
  let n := s.bankGrant .nitrogen
  let pc := (s.ownClaimant .power).firm
  let nc := (s.ownClaimant .nitrogen).firm
  let pShort := decide (p.2 < pc)
  let nShort := decide (n.2 < nc)
  (s.setShare
    { powerGrant := p.1
      nitrogenGrant := n.1
      countedPower := pc
      countedNitrogen := nc
      powerFirmGrant := p.2
      nitrogenFirmGrant := n.2
      powerShort := pShort
      nitrogenShort := nShort
      capApplied := decide (0 < s.bank.duplicateHold) }).raiseIf
    ((!s.share.powerShort && pShort) || (!s.share.nitrogenShort && nShort)) reasonBankShort

/-- All work of the share position (R21, R33, R44). -/
def State.shareWork (s : State) : State := s.closeRound.shareUnitWork

/-- All work of the control position: the zone controller's and the gas unit's (R50, R74, R109). -/
def State.controlWork (s : State) : State := s.controlZones.controlGas

end Sys2Proof.Machine
end

