-- ==== Sys2Proof/Machine/RoundTimer.lean ====
section
/-! DEFINITION. The round timer (chapter 1): half-cycle boundaries, the positions they raise, the window start with all
its work, and the mains. -/

namespace Sys2Proof.Machine

/-! ### The window start -/

/-- The round timer's own work at the window start that ends a window of a length: the round number advances or is set by
an adoption, the count returns to 0, and the candidate and the heard set are cleared (R2, R3, R12). -/
def RoundTimer.windowStart (t : RoundTimer) (length : Nat) : RoundTimer :=
  { t with
    windowCount := 0
    lastLength := length
    round := match t.candidate with
      | some c => (c.round + 1) % 256
      | none => (t.round + 1) % 256
    candidate := none
    judged := PerEight.all none
    ownHeard := false }

/-- The first window start after listening: PHASED, with the round number fixed by R9; the last window length stays 0. -/
def RoundTimer.firstWindowStart (t : RoundTimer) (round : Nat) : RoundTimer :=
  { t with
    timer := .phased
    windowCount := 0
    round := round
    candidate := none
    listening := PerEight.all none
    firstStart := none
    judged := PerEight.all none
    ownHeard := false }

/-- How many of a zone's figures the dwell check considers: in use, setpoint present, reading VALID (R136); the lag is
setpoint minus reading, and the test is that it is above a bound. -/
def State.lagsAbove (s : State) (bound : Nat) (z : ZoneId) : Bool :=
  match (s.ramp.zones.get z).setpoint with
  | some sp =>
    (s.store.zones.get z).inUse && (s.scanner.ct.get z).isValid && decide ((s.scanner.ct.get z).value + bound < sp)
  | none => false

/-- The loader's dwell check, with the report of a stall (R136, R137). -/
def State.dwellWork (s : State) : State :=
  let band := s.loader.part.dwellBand
  let recovered := !(ZoneId.list.any (s.lagsAbove (band / 2)))
  let lagging := ZoneId.list.any (s.lagsAbove band)
  let r := s.loader.dwellCheck s.gas.established recovered lagging
  let s := s.setLoader r.1
  if r.2 then s.loaderStalled else s

/-- Do a piece of work when a condition holds. -/
def State.doIf (s : State) (c : Bool) (f : State → State) : State := if c then f s else s

/-- The window-start work whose order the manual leaves open, in one order: ramp step, curtain judgement, dwell check and
window count (R97, R106, R119, R136, R152, R165). -/
def State.orderedWork (o : WindowOrder) (s : State) : State :=
  let s := ((s.doIf o.rampFirst State.rampStep).doIf o.curtainFirst State.judgeCurtain).doIf o.countFirst State.countWindow
  let s := s.dwellWork
  ((s.doIf (!o.rampFirst) State.rampStep).doIf (!o.curtainFirst) State.judgeCurtain).doIf (!o.countFirst) State.countWindow

/-- Every order. -/
def WindowOrder.list : List WindowOrder :=
  [⟨true, true, true⟩, ⟨true, true, false⟩, ⟨true, false, true⟩, ⟨true, false, false⟩,
   ⟨false, true, true⟩, ⟨false, true, false⟩, ⟨false, false, true⟩, ⟨false, false, false⟩]

/-- The dwell check has nothing to do in any order: DWELL is not in the set, and the part has no dwell band (R136). -/
def Loader.dwellIdle (l : Loader) : Bool :=
  !l.causes.dwell && decide (l.state ≠ .dwell) && decide (l.part.dwellBand = 0)

/-- The window-start work whose order is open. Where every order gives the same state, that is the state; elsewhere a free
value chooses the order. -/
def State.openOrderWork (s : State) : State :=
  let first := s.orderedWork ⟨true, true, true⟩
  if s.loader.dwellIdle then first
  else
    (if (WindowOrder.list.all fun o => decide (s.orderedWork o = first)) = true then first
     else s.orderedWork (Config.windowOrder s.freeIndex)).setFreeIndex (s.freeIndex + 1)

/-- The joining count at a window start before which the timer was already PHASED (R162). -/
def State.countJoining (s : State) : State :=
  if s.sup.station = .joining then
    s.setSup { s.sup with joiningCount := if s.sup.joiningCount < 2 then s.sup.joiningCount + 1 else 2 }
  else s

/-- The work of the blocks at a window start, after the round timer's own: bank link, duties, flow averages, gas part and
flow fault, then the work whose order is open, and the hand-over of the flows. -/
def State.windowBlocks (s : State) : State :=
  let s := s.bankWindowStart.handOverDuties
  let s := s.setScanner s.scanner.closeWindow
  s.countVolume.judgeFlow.openOrderWork.handOverFlows

/-- A window start that ends a window of a length (R2). -/
def State.windowStartWork (s : State) (length : Nat) : State :=
  ((s.setTimer (s.timer.windowStart length)).countJoining).windowBlocks

/-- The first window start after listening (R9). -/
def State.firstWindowStartWork (s : State) (round : Nat) : State :=
  (s.setTimer (s.timer.firstWindowStart round)).windowBlocks

/-! ### The half-cycle boundary -/

/-- The lowest-numbered station's listening record (R9). -/
def lowestListening (l : PerEight (Option ListenRecord)) : List (Fin 8) → Option (StationNo × ListenRecord)
  | [] => none
  | i :: rest =>
    match l.get i with
    | some r => some (i, r)
    | none => lowestListening l rest

/-- The first window start as fixed from the listening records (R9). -/
def fixFirstStart (n : Nat) (l : PerEight (Option ListenRecord)) : FirstStart :=
  match lowestListening l eightNumbers with
  | none => ⟨n, 0⟩
  | some (i, r) =>
    let e := r.count + n - slotOf i
    if n ≤ e then ⟨e, (r.round + 1) % 256⟩ else ⟨e + n, (r.round + 2) % 256⟩

/-- A boundary is counted: the count rises by one, and a boundary now precedes the next edge (R1, R2). -/
def State.countUp (s : State) : State :=
  s.setTimer { s.timer with windowCount := s.timer.windowCount + 1, boundarySeen := true }

/-- Listening ends at the N-th boundary after START (R8, R9). -/
def State.endListening (s : State) : State :=
  if s.timer.windowCount = s.n ∧ s.timer.firstStart = none then
    s.setTimer { s.timer with firstStart := some (fixFirstStart s.n s.timer.listening) }
  else s

/-- A boundary while LISTENING (R8, R9). -/
def State.listeningBoundary (s : State) : State :=
  let s := s.countUp.endListening
  match s.timer.firstStart with
  | some f => if s.timer.windowCount = f.count then s.firstWindowStartWork f.round else s
  | none => s

/-- The sequence, share and control positions that a shortened window does not reach, in this order (R14). -/
def State.cutOffPositions (s : State) (length : Nat) : State :=
  let s := s.doIf (decide (length ≤ s.seqPos)) State.sequenceWork
  let s := s.doIf (decide (length ≤ s.sharePos)) State.shareWork
  s.doIf (decide (length ≤ s.ctlPos)) State.controlWork

/-- The named position a count reaches, other than the window start, is raised (R2). -/
def State.raisePosition (s : State) : State :=
  let c := s.timer.windowCount
  if c = s.slot then s.slotWork
  else if c = s.seqPos then s.sequenceWork
  else if c = s.sharePos then s.shareWork
  else if c = s.ctlPos then s.controlWork
  else s

/-- A boundary while PHASED: it ends the window, or raises the position it reaches (R2, R14). -/
def State.phasedBoundary (s : State) : State :=
  let stop := s.endCount
  let s := s.countUp
  if stop ≤ s.timer.windowCount then (s.cutOffPositions stop).windowStartWork stop
  else s.raisePosition

/-- A half-cycle boundary is counted, without the firing of the half-cycle that begins at it (R2, R8). -/
def State.boundaryWork (s : State) : State :=
  match s.timer.timer with
  | .stopped => s
  | .listening => s.listeningBoundary
  | .phased => s.phasedBoundary

/-- A half-cycle boundary is counted, and in a PHASED window the zones fire or withhold the half-cycle that begins, after
the hand-over of a window start (R2, R82). -/
def State.boundary (s : State) : State :=
  let s := s.boundaryWork
  if s.timer.timer = .phased then s.fire else s

/-- Boundaries counted one after another at one instant (R1). -/
def State.boundaries : Nat → State → State
  | 0, s => s
  | k + 1, s => State.boundaries k s.boundary

/-! ### The mains -/

/-- k = e/h rounded to the nearest integer, a half rounded up (R1). -/
def boundariesOf (threeH e : Nat) : Nat := (6 * e + threeH) / (2 * threeH)

/-- e is less than h/2 (R1, R7). -/
def isNoise (threeH e : Nat) : Bool := decide (6 * e < threeH)

/-- An edge at the zero-cross input, e after the last boundary (R1, R7). -/
def State.zeroCross (s : State) (e : Nat) : State :=
  if s.timer.timer = .stopped then s
  else
    match s.timer.mains with
    | .lost =>
      let noise := isNoise s.threeH e
      let s := s.setTimer { s.timer with mains := .present }
      if noise then s else s.boundary
    | .present =>
      if s.timer.boundarySeen = false then s.boundary
      else if isNoise s.threeH e then s
      else State.boundaries (boundariesOf s.threeH e) s

/-- Entry into MAINS_LOST: the reason is raised, the three boundaries that fell due are counted in order without gating
their half-cycles, and from the moment of entry every zone's firing is stopped (R5, R83). A window start among the three
finds the mains lost (R97). -/
def State.loseMains (s : State) : State :=
  if s.timer.timer ≠ .stopped ∧ s.timer.mains = .present then
    let s := (s.setTimer { s.timer with mains := .lost }).raise reasonMainsLost
    s.boundaryWork.boundaryWork.boundaryWork.stopFiring
  else s

/-- A substitute boundary (R6). -/
def State.substitute (s : State) : State :=
  if s.timer.timer ≠ .stopped ∧ s.timer.mains = .lost then s.boundary else s

end Sys2Proof.Machine
end

