-- ==== Sys2Proof/Machine/Operands.lean ====
section
/-! DEFINITION. The operands of the host commands: their fields read from the command buffer at the offsets of section
12.1 (R177), each command's figures clamped by its owner's rule, and the records laid out in bytes for the replies. -/

namespace Sys2Proof.Machine

/-! ### Fields and bytes -/

/-- The byte of a frame numbered from 1, as a number. -/
def byteAt (b : List Byte) (n : Nat) : Nat := (b.getD (n - 1) 0).toNat

/-- A two-byte field, most significant byte first. -/
def wordAt (b : List Byte) (n : Nat) : Nat := byteAt b n * 256 + byteAt b (n + 1)

/-- A yes/no byte: 0 is no and any other value yes (R177). -/
def yesAt (b : List Byte) (n : Nat) : Bool := decide (byteAt b n ≠ 0)

/-- A bit of a byte. -/
def bitAt (b : List Byte) (n i : Nat) : Bool := (byteAt b n).testBit i

/-- The upper 12 bits of a three-byte field. -/
def upperAt (b : List Byte) (n : Nat) : Nat := upper12 (b.getD (n - 1) 0) (b.getD n 0)

/-- The lower 12 bits of a three-byte field. -/
def lowerAt (b : List Byte) (n : Nat) : Nat := lower12 (b.getD n 0) (b.getD (n + 1) 0)

/-- A figure in one byte. -/
def one (n : Nat) : List Byte := [BitVec.ofNat 8 n]

/-- A figure in two bytes. -/
def two (n : Nat) : List Byte := [BitVec.ofNat 8 (n / 256), BitVec.ofNat 8 n]

/-- A figure in four bytes. -/
def four (n : Nat) : List Byte := two (n / 65536) ++ two n

/-- A yes/no item of a reply: 1 for yes and 0 for no (R177). -/
def yesNo (b : Bool) : List Byte := [if b then 1 else 0]

/-- A temperature, position or target in two bytes: 0xFFFF when absent (R177). -/
def twoOrAbsent : Option Nat → List Byte
  | some n => two n
  | none => [0xFF, 0xFF]

/-- A byte whose low bits are yes/no items, bit 0 first. -/
def flagBits : List Bool → Nat
  | [] => 0
  | b :: rest => (if b then 1 else 0) + 2 * flagBits rest

/-- OK, or OK_CLAMPED where the stored figures are not the ones given (section 11.2). -/
def clampResult {α : Type} [DecidableEq α] (given stored : α) : ResultCode :=
  if given = stored then .ok else .okClamped

/-! ### The configuration commands -/

/-- SET_BANK's fields as given. -/
def readBankFigures (b : List Byte) : BankFigures :=
  ⟨wordAt b 2, byteAt b 4, byteAt b 5, byteAt b 6, byteAt b 7⟩

/-- The bank figures clamped (R159). -/
def BankFigures.clamp (f : BankFigures) : BankFigures where
  powerLimit := clampNat 0 4095 f.powerLimit
  headerCapacity := clampNat 0 255 f.headerCapacity
  stationCount := clampNat 1 8 f.stationCount
  mainsCode := clampNat 0 1 f.mainsCode
  priority := clampNat 0 15 f.priority

/-- The bank figures in the parameter order of SET_BANK. -/
def BankFigures.bytes (f : BankFigures) : List Byte :=
  two f.powerLimit ++ one f.headerCapacity ++ one f.stationCount ++ one f.mainsCode ++ one f.priority

/-- SET_ZONE's record as given. -/
def readZoneConfig (b : List Byte) : ZoneConfig where
  inUse := yesAt b 3
  rated := byteAt b 4
  kp := byteAt b 5
  ki := byteAt b 6
  maxTemp := wordAt b 7
  overLimit := wordAt b 9
  spanStart := wordAt b 11
  spanEnd := wordAt b 13
  feedForward := wordAt b 15

/-- A zone's record clamped (R70). -/
def ZoneConfig.clamp (c : ZoneConfig) : ZoneConfig where
  inUse := c.inUse
  rated := clampNat 1 200 c.rated
  kp := clampNat 0 255 c.kp
  ki := clampNat 0 255 c.ki
  maxTemp := clampNat 0 13500 c.maxTemp
  overLimit := clampNat 0 15000 c.overLimit
  spanStart := clampNat 0 30000 c.spanStart
  spanEnd := clampNat 0 30000 c.spanEnd
  feedForward := clampNat 0 300 c.feedForward

/-- A zone's record in the layout of SET_ZONE bytes 3 to 16. -/
def ZoneConfig.bytes (c : ZoneConfig) : List Byte :=
  yesNo c.inUse ++ one c.rated ++ one c.kp ++ one c.ki ++ two c.maxTemp ++ two c.overLimit ++ two c.spanStart
    ++ two c.spanEnd ++ two c.feedForward

/-- SET_GAS's figures as given. -/
def readGasConfig (b : List Byte) : GasConfig := ⟨byteAt b 2, byteAt b 3, byteAt b 4⟩

/-- The gas figures clamped; the curtain minimum is lowered to the curtain flow (R108). -/
def GasConfig.clamp (g : GasConfig) : GasConfig where
  curtainFlow := clampNat 0 80 g.curtainFlow
  curtainMin := min (clampNat 0 80 g.curtainMin) (clampNat 0 80 g.curtainFlow)
  idlePurge := clampNat 0 200 g.idlePurge

/-- The gas figures in the parameter order of SET_GAS. -/
def GasConfig.bytes (g : GasConfig) : List Byte := one g.curtainFlow ++ one g.curtainMin ++ one g.idlePurge

/-- SET_LOADER's figures as given. -/
def readLoaderConfig (b : List Byte) : LoaderConfig :=
  ⟨wordAt b 2, byteAt b 4, byteAt b 5, byteAt b 6, byteAt b 7⟩

/-- The loader figures clamped; the stop step is raised to the acceleration step as stored (R121). -/
def LoaderConfig.clamp (l : LoaderConfig) : LoaderConfig where
  stroke := clampNat 1000 30000 l.stroke
  maxSpeed := clampNat 1 100 l.maxSpeed
  accel := clampNat 1 20 l.accel
  stopStep := clampNat (clampNat 1 20 l.accel) 50 l.stopStep
  homingSpeed := clampNat 1 100 l.homingSpeed

/-- The loader figures in the parameter order of SET_LOADER. -/
def LoaderConfig.bytes (l : LoaderConfig) : List Byte :=
  two l.stroke ++ one l.maxSpeed ++ one l.accel ++ one l.stopStep ++ one l.homingSpeed

/-- SET_BAND's entry as given: a band, or the absence of one, whose figures are then not read (R122, R177). -/
def readBand (b : List Byte) : Option Band :=
  if yesAt b 3 then some ⟨wordAt b 4, wordAt b 6, byteAt b 8⟩ else none

/-- A band clamped (R122). -/
def Band.clamp (d : Band) : Band := ⟨clampNat 0 30000 d.first, clampNat 0 30000 d.last, clampNat 1 100 d.limit⟩

/-- A band table entry in five bytes: start, end, speed limit; an absent entry's are 0 (section 12.1). -/
def bandBytes : Option Band → List Byte
  | some d => two d.first ++ two d.last ++ one d.limit
  | none => [0, 0, 0, 0, 0]

/-! ### The segment record and the amend fields -/

/-- The five target fields of a segment record that stands at byte n, with their presence bits 3 to 7. -/
def readTargets (b : List Byte) (n : Nat) : PerZone (Option Nat) :=
  PerZone.ofFn fun z => if bitAt b n (3 + z.index) then some (wordAt b (n + 1 + 2 * z.index)) else none

/-- A segment record that stands at byte n, as given, without an id. -/
def readSegment (b : List Byte) (n : Nat) : Segment where
  id := 0
  thermal := if bitAt b n 0 then some ⟨readTargets b n, upperAt b (n + 11), lowerAt b (n + 11)⟩ else none
  gas := if bitAt b n 1 then some ⟨byteAt b (n + 14), wordAt b (n + 15)⟩ else none
  boat :=
    if bitAt b n 2 then some ⟨wordAt b (n + 17), byteAt b (n + 19), upperAt b (n + 20), lowerAt b (n + 20)⟩ else none
  minDuration := wordAt b (n + 23)

/-- A segment record clamped by the configuration of the run (R142). -/
def Segment.clamp (c : Store) (g : Segment) : Segment where
  id := g.id
  thermal := g.thermal.map fun t =>
    { targets := PerZone.ofFn fun z => (t.targets.get z).map (clampNat 0 (c.zones.get z).maxTemp)
      rate := clampNat 0 1000 t.rate
      guardBand := clampNat 0 500 t.guardBand }
  gas := g.gas.map fun p => ⟨clampNat 0 200 p.flow, clampNat 1 9999 p.litres⟩
  boat := g.boat.map fun b =>
    { target := clampNat 0 c.loader.stroke b.target
      speed := clampNat 1 c.loader.maxSpeed b.speed
      dwellBand := clampNat 0 500 b.dwellBand
      maxDwell := clampNat 0 3600 b.maxDwell }
  minDuration := clampNat 0 65535 g.minDuration

/-- The targets of a thermal part, every one absent where the part is. -/
def Segment.targets (g : Segment) : PerZone (Option Nat) :=
  match g.thermal with
  | some t => t.targets
  | none => PerZone.all none

/-- A segment record in its 25 bytes (section 12.1). The figures of an absent part are 0, its targets 0xFFFF. -/
def Segment.bytes (g : Segment) : List Byte :=
  one (flagBits ([g.thermal.isSome, g.gas.isSome, g.boat.isSome]
      ++ ZoneId.list.map fun z => (g.targets.get z).isSome))
    ++ (ZoneId.list.map fun z => twoOrAbsent (g.targets.get z)).flatten
    ++ (match g.thermal with
        | some t => pack12 t.rate t.guardBand
        | none => [0, 0, 0])
    ++ (match g.gas with
        | some p => one p.flow ++ two p.litres
        | none => [0, 0, 0])
    ++ (match g.boat with
        | some b => two b.target ++ one b.speed ++ pack12 b.dwellBand b.maxDwell
        | none => [0xFF, 0xFF, 0, 0, 0, 0])
    ++ two g.minDuration

/-- A segment read as its id followed by its record; an absent one has the id 0 and a record of 0 (R177). -/
def segmentEntry : Option Segment → List Byte
  | some g => two g.id ++ g.bytes
  | none => two 0

/-- AMEND's fields as given. -/
def readAmend (b : List Byte) : AmendFields where
  rate := if bitAt b 2 0 then some (upperAt b 3) else none
  guardBand := if bitAt b 2 1 then some (lowerAt b 3) else none
  purgeFlow := if bitAt b 2 2 then some (byteAt b 6) else none
  boatSpeed := if bitAt b 2 3 then some (byteAt b 7) else none
  dwellBand := if bitAt b 2 4 then some (wordAt b 8) else none

/-- The amend fields clamped (R146). -/
def AmendFields.clamp (maxSpeed : Nat) (a : AmendFields) : AmendFields where
  rate := a.rate.map (clampNat 0 1000)
  guardBand := a.guardBand.map (clampNat 0 500)
  purgeFlow := a.purgeFlow.map (clampNat 0 200)
  boatSpeed := a.boatSpeed.map (clampNat 1 maxSpeed)
  dwellBand := a.dwellBand.map (clampNat 0 500)

/-- The fields of a later AMEND replace those of the shadow; absent ones leave them (R146). -/
def AmendFields.merge (shadow a : AmendFields) : AmendFields where
  rate := a.rate <|> shadow.rate
  guardBand := a.guardBand <|> shadow.guardBand
  purgeFlow := a.purgeFlow <|> shadow.purgeFlow
  boatSpeed := a.boatSpeed <|> shadow.boatSpeed
  dwellBand := a.dwellBand <|> shadow.dwellBand

/-- The amend fields in their eight bytes (section 12.1). -/
def AmendFields.bytes (a : AmendFields) : List Byte :=
  one (flagBits [a.rate.isSome, a.guardBand.isSome, a.purgeFlow.isSome, a.boatSpeed.isSome, a.dwellBand.isSome])
    ++ pack12 (a.rate.getD 0) (a.guardBand.getD 0) ++ one (a.purgeFlow.getD 0) ++ one (a.boatSpeed.getD 0)
    ++ two (a.dwellBand.getD 0)

/-- The urgent kind a code names: 1 SKIP, 2 HOLD, 3 RESUME, 4 FLUSH (section 12.1). -/
def urgentKind? : Nat → Option UrgentKind
  | 1 => some .skip
  | 2 => some .hold
  | 3 => some .resume
  | 4 => some .flush
  | _ => none

/-- The code of an urgent kind. -/
def UrgentKind.code : UrgentKind → Nat
  | .skip => 1
  | .hold => 2
  | .resume => 3
  | .flush => 4

end Sys2Proof.Machine
end

