-- ==== Sys2Proof/Machine/HostPort.lean ====
section
/-! DEFINITION. The host port (chapter 11): framing of transactions, the reply slot and the taking of a command. -/

namespace Sys2Proof.Machine

/-! ### The reply slot -/

/-- The code of a result (section 12.1). -/
def ResultCode.code : ResultCode → Nat
  | .ok => 0
  | .okClamped => 1
  | .badState => 2
  | .badValue => 3
  | .badConfig => 4
  | .queueFull => 5
  | .urgentBusy => 6
  | .unknown => 7
  | .frameError => 8

/-- The bytes of a reply as far as it uses them (R177); those after them are 0. -/
def Reply.bytes (r : Reply) : List Byte :=
  one r.result.code ++ [r.command] ++ one r.station.code ++ two r.reasons.toNat ++ r.data

/-- The n-th byte of a reply, n from 1; beyond the 32nd the part clocks out 0 (R168). -/
def Reply.byteOut (r : Reply) (n : Nat) : Byte := if n ≤ 32 then r.bytes.getD (n - 1) 0 else 0

/-- A reply is formed at this instant and placed in the reply slot (R170). -/
def State.replyWith (s : State) (command : Byte) (r : ResultCode) (data : List Byte) : State :=
  s.setHost { s.host with reply := ⟨r, command, s.sup.station, s.host.reasons, data⟩ }

/-- The reply to the command in the buffer, whose code it echoes. -/
def State.reply (s : State) (r : ResultCode) (data : List Byte) : State :=
  s.replyWith (s.host.buffer.getD 0 0) r data

/-- A command is refused: no state of any block changes, and the data field is 0 (R171). -/
def State.refuse (s : State) (r : ResultCode) : State := s.reply r []

/-! ### Transactions -/

/-- Chip select is asserted: IDLE passes to RECEIVING with the byte count 0 (R168). In any other state chip select is
asserted already, and nothing happens. -/
def State.beginTransaction (s : State) : State :=
  if s.host.transaction = .idle then s.setHost { s.host with transaction := .receiving, byteCount := 0 } else s

/-- One byte time (R168). In DISCARDING bytes are neither stored nor counted, and what is clocked out is a free value
(R169); while chip select is released the clock is ignored. -/
def State.clockByte (s : State) (b : Byte) : State :=
  match s.host.transaction with
  | .idle => s
  | .receiving =>
    let n := s.host.byteCount + 1
    s.setHost { s.host with
      byteCount := satAdd1 255 s.host.byteCount
      buffer := if n ≤ 32 then s.host.buffer.set (n - 1) b else s.host.buffer
      dataOut := some (s.host.reply.byteOut n) }
  | .discarding =>
    (s.setHost { s.host with dataOut := some (Config.discardedOut s.freeIndex) }).setFreeIndex (s.freeIndex + 1)

/-- Chip select is released: the transaction state is IDLE and the data output not driven (R168). -/
def State.endTransaction (s : State) : State :=
  s.setHost { s.host with transaction := .idle, dataOut := none }

/-- A release after a byte count other than 32: the transaction is discarded with a FRAME_ERROR reply (R169). -/
def State.discard (s : State) : State :=
  s.endTransaction.replyWith (if s.host.byteCount = 0 then 0 else s.host.buffer.getD 0 0) .frameError
    (one s.host.byteCount)

/-! ### The taking of a command -/

/-- The command codes (section 12.1). -/
def commandCodes : List Byte :=
  [0x01, 0x10, 0x11, 0x12, 0x13, 0x14, 0x1F, 0x20, 0x21, 0x22, 0x30, 0x31, 0x32, 0x33, 0x34, 0x35, 0x40, 0x41, 0x42,
   0x50, 0x51, 0x5E]

/-- A release of chip select now takes the command in the buffer: the count is exactly 32 (R168). -/
def State.complete (s : State) : Bool :=
  decide (s.host.transaction = .receiving) && decide (s.host.byteCount = 32)

/-- A release of chip select now takes the command of a code. -/
def State.takes (s : State) (code : Byte) : Bool := s.complete && decide (s.host.buffer.getD 0 0 = code)

/-- The release of chip select that takes the command of a code: the transaction ends and the command is judged and
answered (R168, R171). Where the transaction under way is not a complete one of that code, the event has not come about,
and nothing happens. -/
def State.command (s : State) (code : Byte) (act : State → State) : State :=
  if s.takes code then act s.endTransaction else s

end Sys2Proof.Machine
end

