-- ==== Sys2Proof/Machine/Configuration.lean ====
section
/-! DEFINITION. The configuration commands SET_BANK, SET_ZONE, SET_GAS, SET_LOADER and SET_BAND, and START (R70, R108, R121,
R122, R159 to R161). -/

namespace Sys2Proof.Machine

/-- Replace the configuration store. -/
def State.setStore (s : State) (c : Store) : State := s.setSup { s.sup with store := c }

/-- A configuration command in UNCONFIGURED replaces the store and echoes what it stored; elsewhere it is refused. -/
def State.configure (s : State) (r : ResultCode) (c : Store) (echo : List Byte) : State :=
  if s.sup.station = .unconfigured then (s.setStore c).reply r echo else s.refuse .badState

/-- SET_BANK (R159). -/
def execSetBank (s : State) : Host.Outcome State Fault Refusal :=
  .next (s.command 0x10 fun s =>
    let given := readBankFigures s.host.buffer
    let stored := given.clamp
    s.configure (clampResult given stored) { s.store with bank := stored } stored.bytes)

/-- SET_ZONE (R70, R171). -/
def execSetZone (s : State) : Host.Outcome State Fault Refusal :=
  .next (s.command 0x11 fun s =>
    match ZoneId.ofIndex? (byteAt s.host.buffer 2) with
    | none => s.refuse .badValue
    | some z =>
      let given := readZoneConfig s.host.buffer
      let stored := given.clamp
      s.configure (clampResult given stored) { s.store with zones := s.store.zones.set z stored }
        (one z.index ++ stored.bytes))

/-- SET_GAS (R108). -/
def execSetGas (s : State) : Host.Outcome State Fault Refusal :=
  .next (s.command 0x12 fun s =>
    let given := readGasConfig s.host.buffer
    let stored := given.clamp
    s.configure (clampResult given stored) { s.store with gas := stored } stored.bytes)

/-- SET_LOADER (R121). -/
def execSetLoader (s : State) : Host.Outcome State Fault Refusal :=
  .next (s.command 0x13 fun s =>
    let given := readLoaderConfig s.host.buffer
    let stored := given.clamp
    s.configure (clampResult given stored) { s.store with loader := stored } stored.bytes)

/-- SET_BAND (R122, R171). -/
def execSetBand (s : State) : Host.Outcome State Fault Refusal :=
  .next (s.command 0x14 fun s =>
    if 7 < byteAt s.host.buffer 2 then s.refuse .badValue
    else
      let i : Fin 8 := Fin.ofNat 8 (byteAt s.host.buffer 2)
      let given := readBand s.host.buffer
      let stored := given.map Band.clamp
      s.configure (clampResult given stored) { s.store with bands := s.store.bands.set i stored }
        (one i.val ++ yesNo stored.isSome ++ bandBytes stored))

/-! ### START -/

/-- The number of zones in use. -/
def Store.zonesInUse (c : Store) : Nat := (ZoneId.list.filter fun z => (c.zones.get z).inUse).length

/-- A zone in use whose span start is not less than its span end (R160, code 4). -/
def Store.badSpan (c : Store) (z : ZoneId) : Bool :=
  (c.zones.get z).inUse && decide ((c.zones.get z).spanEnd ≤ (c.zones.get z).spanStart)

/-- A present band whose start is not less than its end (R160, code 5). -/
def Store.badBand (c : Store) (i : Fin 8) : Bool :=
  match c.bands.get i with
  | some b => decide (b.last ≤ b.first)
  | none => false

/-- Two bands overlap when each starts before the other ends (R122). -/
def Band.overlaps (a b : Band) : Bool := decide (a.first < b.last) && decide (b.first < a.last)

/-- A present band overlaps a present band of lower index (R160, code 6). -/
def Store.overlapsLower (c : Store) (i : Fin 8) : Bool :=
  eightNumbers.any fun j =>
    decide (j < i) && match c.bands.get i, c.bands.get j with
      | some a, some b => a.overlaps b
      | _, _ => false

/-- The checks of START in their order: the code of the first that fails and the index it names (R160). -/
def Store.startCheck (c : Store) (own : StationNo) : Option (Nat × Nat) :=
  if c.bank.stationCount = 0 then some (1, 0)
  else if c.bank.stationCount ≤ own.val then some (2, own.val)
  else if c.zonesInUse < 3 then some (3, c.zonesInUse)
  else
    match ZoneId.list.find? c.badSpan with
    | some z => some (4, z.index)
    | none =>
      match eightNumbers.find? c.badBand with
      | some i => some (5, i.val)
      | none => (eightNumbers.find? c.overlapsLower).map fun i => (6, i.val)

/-- Every block makes its own start (R8, R16, R23, R34, R68, R118, R161); an asserted HALT line halts the station at the
same instant (R163). -/
def State.begin (s : State) : State :=
  let s := s.setSup { s.sup with station := .joining, joiningCount := 0 }
  let s := s.setTimer { RoundTimer.reset with timer := .listening }
  let s := s.setBank { s.bank with
    signature := s.store.bank.signature
    pendingLeave := none
    unsent := 0
    solo := false }
  let s := s.setScanner { s.scanner with fpAcc := ⟨0, 0⟩, fcAcc := ⟨0, 0⟩ }
  let s := s.setGas { s.gas with established := s.gas.established || decide (s.store.gas.curtainMin = 0) }
  if s.sup.haltAsserted then s.halt else s

/-- START (R160, R161). -/
def execStart (s : State) : Host.Outcome State Fault Refusal :=
  .next (s.command 0x1F fun s =>
    if s.sup.station = .unconfigured then
      match s.store.startCheck s.bank.ownNumber with
      | some (code, index) => s.reply .badConfig (one code ++ one index)
      | none => s.begin.reply .ok []
    else s.refuse .badState)

end Sys2Proof.Machine
end

