-- ==== Sys2Proof/Machine/Reads.lean ====
section
/-! DEFINITION. The data fields of the reads: each page of a snapshot as section 12.1 lays it out (R15, R37, R38, R49,
R69, R90, R107, R120, R140, R158, R167, R172). A page above the last gives a data field of 0 (R177). -/

namespace Sys2Proof.Machine

/-! ### Codes -/

/-- Timer state. -/
def TimerState.code : TimerState → Nat
  | .stopped => 0
  | .listening => 1
  | .phased => 2

/-- Mains state. -/
def MainsState.code : MainsState → Nat
  | .present => 0
  | .lost => 1

/-- Status of a reading. -/
def ReadingStatus.code : ReadingStatus → Nat
  | .valid => 0
  | .over => 1
  | .under => 2
  | .openCircuit => 3
  | .stale => 4
  | .fault => 5

/-- CJ and REF check. -/
def Check.code : Check → Nat
  | .untested => 0
  | .pass => 1
  | .fail => 2

/-- Presence of a peer. -/
def Presence.code : Presence → Nat
  | .absent => 0
  | .fresh => 1
  | .stale => 2
  | .mismatch => 3

/-- Status of the own announcement record. -/
def RecordStatus.code : RecordStatus → Nat
  | .none => 0
  | .pending => 1
  | .sent => 2
  | .dropped => 3

/-- Loader state. -/
def LoaderState.code : LoaderState → Nat
  | .atRest => 0
  | .waitCurtain => 1
  | .homing => 2
  | .moving => 3
  | .stopping => 4
  | .dwell => 5
  | .stalled => 6

/-- Direction of the loader. -/
def Direction.code : Direction → Nat
  | .outward => 0
  | .inward => 1

/-- Ramp state. -/
def RampState.code : RampState → Nat
  | .steady => 0
  | .rising => 1
  | .falling => 2

/-- Class of a zone. -/
def ZoneClass.code : ZoneClass → Nat
  | .firm => 0
  | .rising => 1

/-- Result of the last urgent command. -/
def UrgentResult.code : UrgentResult → Nat
  | .none => 0
  | .pending => 1
  | .taken => 2
  | .ignored => 3

/-- Result of an ended segment. -/
def SegmentResult.code : SegmentResult → Nat
  | .done => 0
  | .skipped => 1

/-- The stop-cause bits. -/
def StopCauses.code (c : StopCauses) : Nat := flagBits [c.hold, c.halt, c.curtain, c.dwell, c.skip]

/-- The hold-cause bits. -/
def HoldCauses.code (c : HoldCauses) : Nat := flagBits [c.curtailed, c.guard, c.reading, c.station]

/-- A reading in three bytes: its value, then status in bits 7 to 4 and age in bits 3 to 0. -/
def Reading.bytes (r : Reading) : List Byte := two r.value ++ one (r.status.code * 16 + r.age)

/-! ### READ_STATUS -/

/-- Page 0: round timer, joining count, HALT level, bank figures. -/
def State.statusPage0 (s : State) : List Byte :=
  one s.timer.timer.code ++ one s.timer.mains.code ++ one s.timer.round ++ two s.timer.windowCount
    ++ two s.timer.lastLength ++ one s.sup.joiningCount ++ yesNo s.sup.haltAsserted ++ s.store.bank.bytes

/-- Page 1: the share unit and the power figures. -/
def State.statusPage1 (s : State) : List Byte :=
  two s.share.powerGrant ++ one s.share.nitrogenGrant ++ two s.share.countedPower ++ one s.share.countedNitrogen
    ++ two s.share.powerFirmGrant ++ one s.share.nitrogenFirmGrant
    ++ one (flagBits [s.share.powerShort, s.share.nitrogenShort, s.share.capApplied])
    ++ two s.zones.powerFirm ++ two s.zones.powerExtra

/-- Page 2: the readings, checks and averages of the scanner. -/
def State.statusPage2 (s : State) : List Byte :=
  s.scanner.cj.bytes ++ s.scanner.ref.bytes ++ s.scanner.fp.bytes ++ s.scanner.fc.bytes
    ++ one s.scanner.cjCheck.code ++ one s.scanner.refCheck.code ++ one s.scanner.lastFp ++ one s.scanner.lastFc

/-- Page 3: the ramp progress record. -/
def State.statusPage3 (s : State) : List Byte :=
  yesNo s.ramp.partCurrent ++ two s.ramp.rate ++ two s.ramp.guardBand ++ one s.ramp.pattern ++ yesNo s.ramp.held
    ++ one s.ramp.causes.code ++ yesNo s.ramp.complete ++ two s.ramp.largestDeviation

/-- The commanded flows of a window. -/
def Commanded.bytes (c : Commanded) : List Byte := one c.curtain ++ one c.purge ++ yesNo c.partFlow

/-- Page 4: the gas unit. -/
def State.statusPage4 (s : State) : List Byte :=
  yesNo s.gas.required ++ one s.gas.purgeDemand ++ one s.gas.nitrogenFirm ++ one s.gas.nitrogenExtra
    ++ s.gas.next.bytes ++ s.gas.running.bytes ++ one s.gas.faultCount ++ yesNo s.gas.faultReported
    ++ yesNo s.gas.established ++ yesNo s.gas.lost ++ one s.gas.good ++ one s.gas.bad

/-- Page 5: the gas part. -/
def State.statusPage5 (s : State) : List Byte :=
  yesNo s.gas.part.current ++ one s.gas.part.flow ++ two s.gas.part.litres ++ four s.gas.part.target
    ++ four s.gas.part.volume ++ yesNo s.gas.part.complete

/-- The data field of READ_STATUS. -/
def State.statusPage (s : State) : Nat → List Byte
  | 0 => s.statusPage0
  | 1 => s.statusPage1
  | 2 => s.statusPage2
  | 3 => s.statusPage3
  | 4 => s.statusPage4
  | 5 => s.statusPage5
  | _ => []

/-! ### READ_ZONE -/

/-- Page 1: the zone's control state. -/
def State.zonePage1 (s : State) (z : ZoneId) : List Byte :=
  let v := s.zones.zones.get z
  two v.integral ++ two v.demand ++ one v.powerDemand ++ one v.zoneClass.code ++ one v.granted
    ++ one v.dutyNext ++ yesNo v.curtailedNext ++ one v.dutyRunning ++ yesNo v.curtailed ++ one v.fired
    ++ one (flagBits [v.firingStopped, v.tripped, s.contactorClosed z, v.openHold]) ++ one v.recovery

/-- Page 2: the zone's readings and its ramp state. -/
def State.zonePage2 (s : State) (z : ZoneId) : List Byte :=
  let v := s.ramp.zones.get z
  (s.scanner.ct.get z).bytes ++ (s.scanner.lt.get z).bytes ++ twoOrAbsent v.setpoint ++ twoOrAbsent v.start
    ++ twoOrAbsent v.target ++ one v.state.code

/-- The data field of READ_ZONE. -/
def State.zonePage (s : State) (z : ZoneId) : Nat → List Byte
  | 0 => (s.store.zones.get z).bytes
  | 1 => s.zonePage1 z
  | 2 => s.zonePage2 z
  | _ => []

/-! ### READ_LOADER -/

/-- The approach record: the band's index and its limit; 0xFF for an absent record's index. -/
def approachBytes : Option Approach → List Byte
  | some a => one a.band.val ++ one a.limit
  | none => [0xFF, 0]

/-- The boat part record. -/
def BoatPart.bytes (p : BoatPart) : List Byte :=
  yesNo p.current ++ two p.target ++ one p.speed ++ two p.dwellBand ++ two p.maxDwell ++ yesNo p.complete

/-- Page 0: the loader record, the home switch and the boat part. -/
def State.loaderPage0 (s : State) : List Byte :=
  let l := s.loader
  twoOrAbsent l.position ++ one l.speed ++ one l.direction.code ++ one l.state.code ++ one l.causes.code
    ++ yesNo l.braking ++ approachBytes l.approach ++ two l.homingTravel ++ two l.dwellTotal ++ one l.pattern
    ++ yesNo l.homeActive ++ l.part.bytes

/-- Four entries of the band table. -/
def State.bandsBytes (s : State) (is : List (Fin 8)) : List Byte :=
  (is.map fun i => bandBytes (s.store.bands.get i)).flatten

/-- The data field of READ_LOADER. -/
def State.loaderPage (s : State) : Nat → List Byte
  | 0 => s.loaderPage0
  | 1 => s.store.loader.bytes ++ s.bandsBytes [0, 1, 2, 3]
  | 2 => s.bandsBytes [4, 5, 6, 7]
  | _ => []

/-! ### READ_PEER -/

/-- State, priority and the four figures. -/
def Figures.bytes (f : Figures) : List Byte :=
  one f.station.code ++ one f.priority ++ two f.powerFirm ++ two f.powerExtra ++ one f.nitrogenFirm
    ++ one f.nitrogenExtra

/-- A peer table entry (R37). -/
def PeerEntry.bytes (e : PeerEntry) : List Byte :=
  one 0 ++ one e.presence.code ++ yesNo e.heard ++ one e.lastRound ++ one e.age ++ e.figures.bytes ++ yesNo e.agrees

/-- The bank link's own state (R38). -/
def BankLink.ownBytes (b : BankLink) : List Byte :=
  one 1 ++ one b.record.status.code ++ one b.record.round ++ b.record.figures.bytes ++ one b.record.signature
    ++ one b.signature ++ one b.unsent ++ yesNo b.solo ++ one b.duplicateHold

/-- The data field of READ_PEER. -/
def BankLink.peerPage (b : BankLink) (i : StationNo) : List Byte :=
  if i = b.ownNumber then b.ownBytes else (b.peers.get i).bytes

/-! ### READ_QUEUE and READ_OUTCOME -/

/-- The runtime fields of the current segment, 0 where there is none. -/
def runtimeBytes : Option CurrentSegment → List Byte
  | some c => two c.windows ++ two c.heldWindows ++ two c.curtailedWindows ++ yesNo c.skipPending
  | none => two 0 ++ two 0 ++ two 0 ++ yesNo false

/-- The code of an optional urgent kind, 0 for none. -/
def urgentCode : Option UrgentKind → Nat
  | some k => k.code
  | none => 0

/-- Page 2: runtime fields, queue length, shadow, urgent command, next id and mark. -/
def Executor.queuePage2 (e : Executor) : List Byte :=
  runtimeBytes e.current ++ one e.queue.length ++ e.shadow.bytes ++ one (urgentCode e.urgent)
    ++ one (urgentCode e.lastKind) ++ one e.lastResult.code ++ two e.nextId ++ one e.lowMark

/-- The data field of READ_QUEUE. -/
def Executor.queuePage (e : Executor) (index : Nat) : Nat → List Byte
  | 0 => segmentEntry (e.current.map CurrentSegment.record)
  | 1 => segmentEntry e.queue[index]?
  | 2 => e.queuePage2
  | _ => []

/-- An outcome record; an absent one has the id 0. -/
def outcomeBytes : Option OutcomeRecord → List Byte
  | some o =>
    two o.id ++ one o.result.code ++ two o.windows ++ two o.heldWindows ++ two o.curtailedWindows
      ++ two o.dwellTotal ++ two o.litres ++ two o.largestDeviation
  | none => two 0

end Sys2Proof.Machine
end

