-- ==== Sys2Proof/Machine/Framing.lean ====
section
/-! DEFINITION. The meanings of the transaction rows and of the reads (chapter 11): TRANSACTION_BEGIN, BYTE_TIME,
FRAME_ERROR, CHIP_SELECT_RELEASE_DISCARDING, UNKNOWN_COMMAND, NOP and the six READ commands. -/

namespace Sys2Proof.Machine

/-- TRANSACTION_BEGIN (R168). -/
def execTransactionBegin (s : State) : Host.Outcome State Fault Refusal := .next s.beginTransaction

/-- BYTE_TIME (R168, R169). -/
def execByteTime (byteIn : Byte) (s : State) : Host.Outcome State Fault Refusal := .next (s.clockByte byteIn)

/-- FRAME_ERROR (R169): a release in RECEIVING after a count other than 32. -/
def execFrameError (s : State) : Host.Outcome State Fault Refusal :=
  .next (if s.host.transaction = .receiving ∧ s.host.byteCount ≠ 32 then s.discard else s)

/-- CHIP_SELECT_RELEASE_DISCARDING (R169). -/
def execChipSelectReleaseDiscarding (s : State) : Host.Outcome State Fault Refusal :=
  .next (if s.host.transaction = .discarding then s.endTransaction else s)

/-- UNKNOWN_COMMAND (R171): a complete transaction whose code is none of section 12.1. -/
def execUnknownCommand (s : State) : Host.Outcome State Fault Refusal :=
  .next (if s.complete = true ∧ commandCodes.contains (s.host.buffer.getD 0 0) = false then
      s.endTransaction.refuse .unknown
    else s)

/-- NOP (R170). -/
def execNop (s : State) : Host.Outcome State Fault Refusal := .next (s.command 0x01 fun s => s.reply .ok [])

/-- READ_STATUS (R172). -/
def execReadStatus (s : State) : Host.Outcome State Fault Refusal :=
  .next (s.command 0x30 fun s => s.reply .ok (s.statusPage (byteAt s.host.buffer 2)))

/-- READ_ZONE; a zone index above 4 is refused (R171, R172). -/
def execReadZone (s : State) : Host.Outcome State Fault Refusal :=
  .next (s.command 0x31 fun s =>
    match ZoneId.ofIndex? (byteAt s.host.buffer 2) with
    | none => s.refuse .badValue
    | some z => s.reply .ok (s.zonePage z (byteAt s.host.buffer 3)))

/-- READ_LOADER (R140). -/
def execReadLoader (s : State) : Host.Outcome State Fault Refusal :=
  .next (s.command 0x32 fun s => s.reply .ok (s.loaderPage (byteAt s.host.buffer 2)))

/-- READ_PEER; a station number above 7 is refused (R37, R38, R171). -/
def execReadPeer (s : State) : Host.Outcome State Fault Refusal :=
  .next (s.command 0x33 fun s =>
    if 7 < byteAt s.host.buffer 2 then s.refuse .badValue
    else s.reply .ok (s.bank.peerPage (Fin.ofNat 8 (byteAt s.host.buffer 2))))

/-- READ_QUEUE (R158). -/
def execReadQueue (s : State) : Host.Outcome State Fault Refusal :=
  .next (s.command 0x34 fun s =>
    s.reply .ok (s.exec.queuePage (byteAt s.host.buffer 2) (byteAt s.host.buffer 3)))

/-- READ_OUTCOME (R158). -/
def execReadOutcome (s : State) : Host.Outcome State Fault Refusal :=
  .next (s.command 0x35 fun s => s.reply .ok (outcomeBytes s.exec.outcomes[byteAt s.host.buffer 2]?))

end Sys2Proof.Machine
end

