-- ==== Sys2Proof/Machine/Line.lean ====
section
/-! DEFINITION. The meanings of the bank line rows: ANNOUNCE_SENT, TRANSMIT_ATTEMPT_FAIL, LEAVE_SENT, ANNOUNCE_ARRIVAL and
LEAVE_ARRIVAL (chapter 2). -/

namespace Sys2Proof.Machine

/-- ANNOUNCE_SENT (R20). Where the record is not PENDING the success is the run-out attempt of a withdrawn frame, and has
no effect (R21, R22). -/
def execAnnounceSent (s : State) : Host.Outcome State Fault Refusal :=
  .next (if s.bank.record.status = .pending then s.ownSent else s)

/-- TRANSMIT_ATTEMPT_FAIL (R17): the buffer keeps its frame, which the controller re-attempts. -/
def execTransmitAttemptFail (s : State) : Host.Outcome State Fault Refusal := .next s

/-- LEAVE_SENT (R23). -/
def execLeaveSent (s : State) : Host.Outcome State Fault Refusal := .next (s.setBank { s.bank with pendingLeave := none })

/-- ANNOUNCE_ARRIVAL (R24 to R27). -/
def execAnnounceArrival (frame : CanFrame) (s : State) : Host.Outcome State Fault Refusal := .next (s.frameArrives frame)

/-- LEAVE_ARRIVAL (R24, R28). -/
def execLeaveArrival (frame : CanFrame) (s : State) : Host.Outcome State Fault Refusal := .next (s.frameArrives frame)

end Sys2Proof.Machine
end

