-- ==== Sys2Proof/Machine/Plant.lean ====
section
/-! DEFINITION. The meanings of the scanner, loader and HALT rows (chapters 4, 8 and 10). -/

namespace Sys2Proof.Machine

/-- BURNOUT_TEST (R58). -/
def execBurnoutTest (loopOhms : Nat) (s : State) : Host.Outcome State Fault Refusal :=
  .next (s.setScanner (s.scanner.burnoutTest loopOhms))

/-- CONVERSION_COMPLETE (R55). -/
def execConversionComplete (measured : Int) (s : State) : Host.Outcome State Fault Refusal :=
  .next (s.conversionComplete measured)

/-- The steps of one motion tick, with the report of a stall (R128, R131, R137). -/
def State.tickSteps (s : State) : State :=
  let r := s.loader.tick s.store.loader.stroke
  let s := s.setLoader r.1
  if r.2 then s.loaderStalled else s

/-- The speed update (R129). -/
def State.speedUpdate (s : State) : State :=
  s.setLoader (s.loader.speedUpdate s.gas.established s.store.loader s.store.bands)

/-- One motion tick: the steps, and at every tenth tick the speed update after them (R127). -/
def State.motionTick (s : State) : State :=
  let phase := s.loader.tickPhase
  let s := s.tickSteps
  if phase + 1 < 10 then s.setLoader { s.loader with tickPhase := phase + 1 }
  else
    let s := s.speedUpdate
    s.setLoader { s.loader with tickPhase := 0 }

/-- MOTION_TICK (R127, R128). -/
def execMotionTick (s : State) : Host.Outcome State Fault Refusal := .next s.motionTick

/-- SPEED_UPDATE (R127, R129): the tick that is a speed update. Where the next tick is not the tenth, nothing happens. -/
def execSpeedUpdate (s : State) : Host.Outcome State Fault Refusal :=
  .next (if s.loader.tickPhase = 9 then s.motionTick else s)

/-- HOME_SWITCH_ACTIVATION (R124). -/
def execHomeSwitchActivation (s : State) : Host.Outcome State Fault Refusal :=
  .next (if s.loader.homeActive then s
    else s.setLoader (({ s.loader with homeActive := true } : Loader).homeActivation s.gas.established))

/-- HOME_SWITCH_RELEASE (R124). -/
def execHomeSwitchRelease (s : State) : Host.Outcome State Fault Refusal :=
  .next (s.setLoader { s.loader with homeActive := false })

/-- HALT_ASSERT (R163): an assertion is the line's passing from released to asserted. -/
def execHaltAssert (s : State) : Host.Outcome State Fault Refusal :=
  .next (if s.sup.haltAsserted then s
    else
      let s := s.setSup { s.sup with haltAsserted := true }
      if s.sup.station = .unconfigured then s else s.halt)

/-- HALT_RELEASE (R163). -/
def execHaltRelease (s : State) : Host.Outcome State Fault Refusal :=
  .next (s.setSup { s.sup with haltAsserted := false })

end Sys2Proof.Machine
end

