-- ==== Sys2Proof/Machine/Positions.lean ====
section
/-! DEFINITION. The meanings of the mains and position rows (chapter 1). A position row is the half-cycle boundary that
reaches that position: it is due when the next boundary reaches it, and performs that boundary whole (R2, R9, R14). The
boundaries of ZERO_CROSS_EDGE, SUBSTITUTE_BOUNDARY and MAINS_LOST raise the positions they reach by themselves. Where the
position is not due, the event has not come about, and nothing happens (log entry 8). -/

namespace Sys2Proof.Machine

/-- The next boundary reaches a position of the running window other than its end (R2). -/
def State.positionDue (s : State) (p : Nat) : Bool :=
  decide (s.timer.timer = .phased) && decide (s.timer.windowCount + 1 = p) && decide (p < s.endCount)

/-- The next boundary ends the running window (R2). -/
def State.windowStartDue (s : State) : Bool :=
  decide (s.timer.timer = .phased) && decide (s.endCount ≤ s.timer.windowCount + 1)

/-- The next boundary is the N-th after START (R9). -/
def State.listeningEndDue (s : State) : Bool :=
  decide (s.timer.timer = .listening) && decide (s.timer.windowCount + 1 = s.n)
    && decide (s.timer.firstStart = none)

/-- The next boundary makes the timer PHASED (R9). -/
def State.firstWindowStartDue (s : State) : Bool :=
  decide (s.timer.timer = .listening) && decide (s.boundary.timer.timer = .phased)

/-- ZERO_CROSS_EDGE (R1, R7). -/
def execZeroCrossEdge (elapsed : Nat) (s : State) : Host.Outcome State Fault Refusal := .next (s.zeroCross elapsed)

/-- MAINS_LOST (R5). -/
def execMainsLost (s : State) : Host.Outcome State Fault Refusal := .next s.loseMains

/-- SUBSTITUTE_BOUNDARY (R6). -/
def execSubstituteBoundary (s : State) : Host.Outcome State Fault Refusal := .next s.substitute

/-- LISTENING_END (R9). -/
def execListeningEnd (s : State) : Host.Outcome State Fault Refusal :=
  .next (if s.listeningEndDue then s.boundary else s)

/-- FIRST_WINDOW_START (R9). -/
def execFirstWindowStart (s : State) : Host.Outcome State Fault Refusal :=
  .next (if s.firstWindowStartDue then s.boundary else s)

/-- WINDOW_START (R2). -/
def execWindowStart (s : State) : Host.Outcome State Fault Refusal :=
  .next (if s.windowStartDue then s.boundary else s)

/-- OWN_SLOT (R18). -/
def execOwnSlot (s : State) : Host.Outcome State Fault Refusal :=
  .next (if s.positionDue s.slot then s.boundary else s)

/-- SEQUENCE_POSITION (R145). -/
def execSequencePosition (s : State) : Host.Outcome State Fault Refusal :=
  .next (if s.positionDue s.seqPos then s.boundary else s)

/-- SHARE_POSITION (R44). -/
def execSharePosition (s : State) : Host.Outcome State Fault Refusal :=
  .next (if s.positionDue s.sharePos then s.boundary else s)

/-- CONTROL_POSITION (R74). -/
def execControlPosition (s : State) : Host.Outcome State Fault Refusal :=
  .next (if s.positionDue s.ctlPos then s.boundary else s)

end Sys2Proof.Machine
end

