-- ==== Sys2Proof/Machine/Recipe.lean ====
section
/-! DEFINITION. The segment commands APPEND, AMEND, URGENT and SET_LOW_MARK (R142, R144, R146, R148). -/

namespace Sys2Proof.Machine

/-- The id after one: 65535 is followed by 1 (R142). -/
def nextSegmentId (n : Nat) : Nat := if n < 65535 then n + 1 else 1

/-- The record joins the queue at its tail with the next id (R142, R143). -/
def Executor.append (e : Executor) (g : Segment) : Executor :=
  { e with queue := e.queue ++ [{ g with id := e.nextId }], nextId := nextSegmentId e.nextId }

/-- APPEND (R142). -/
def execAppend (s : State) : Host.Outcome State Fault Refusal :=
  .next (s.command 0x20 fun s =>
    if s.sup.station = .unconfigured then s.refuse .badState
    else if 16 ≤ s.exec.queue.length then s.refuse .queueFull
    else
      let given := readSegment s.host.buffer 2
      let stored := given.clamp s.store
      (s.setExec (s.exec.append stored)).reply (clampResult given stored) (two s.exec.nextId ++ stored.bytes))

/-- AMEND (R146). -/
def execAmend (s : State) : Host.Outcome State Fault Refusal :=
  .next (s.command 0x21 fun s =>
    match s.exec.current with
    | none => s.refuse .badState
    | some _ =>
      let given := readAmend s.host.buffer
      let stored := given.clamp s.store.loader.maxSpeed
      let shadow := s.exec.shadow.merge stored
      (s.setExec { s.exec with shadow := shadow }).reply (clampResult given stored) shadow.bytes)

/-- URGENT (R148, R171). -/
def execUrgent (s : State) : Host.Outcome State Fault Refusal :=
  .next (s.command 0x22 fun s =>
    match urgentKind? (byteAt s.host.buffer 2) with
    | none => s.refuse .badValue
    | some k =>
      if s.sup.station = .unconfigured then s.refuse .badState
      else
        match s.exec.urgent with
        | some _ => s.refuse .urgentBusy
        | none => (s.setExec { s.exec with urgent := some k, lastKind := some k, lastResult := .pending }).reply .ok [])

/-- SET_LOW_MARK (R144). -/
def execSetLowMark (s : State) : Host.Outcome State Fault Refusal :=
  .next (s.command 0x42 fun s =>
    let given := byteAt s.host.buffer 2
    let stored := clampNat 0 15 given
    (s.setExec { s.exec with lowMark := stored }).reply (clampResult given stored) (one stored))

end Sys2Proof.Machine
end

