-- ==== Sys2Proof/Machine/Service.lean ====
section
/-! DEFINITION. The commands CLEAR_REASONS, SET_MASK, RESET_TRIP, CLEAR_HALT and RESTART, and hard reset (R87, R164, R166,
R174, R175). -/

namespace Sys2Proof.Machine

/-- A selection of reasons: the 16-bit field at bytes 2 and 3 (R177). -/
def selectionOf (b : List Byte) : BitVec 16 := BitVec.ofNat 16 (wordAt b 2)

/-- CLEAR_REASONS (R174). -/
def execClearReasons (s : State) : Host.Outcome State Fault Refusal :=
  .next (s.command 0x40 fun s =>
    (s.setHost { s.host with reasons := s.host.reasons &&& ~~~(selectionOf s.host.buffer) }).reply .ok [])

/-- SET_MASK (R175). -/
def execSetMask (s : State) : Host.Outcome State Fault Refusal :=
  .next (s.command 0x41 fun s =>
    let mask := selectionOf s.host.buffer &&& maskableReasons
    (s.setHost { s.host with mask := mask }).reply .ok (two mask.toNat))

/-- RESET_TRIP (R87, R171). -/
def execResetTrip (s : State) : Host.Outcome State Fault Refusal :=
  .next (s.command 0x50 fun s =>
    match ZoneId.ofIndex? (byteAt s.host.buffer 2) with
    | none => s.refuse .badValue
    | some z =>
      let v := s.zones.zones.get z
      if v.tripped = false then s.reply .ok []
      else if s.tripClearable z then (s.setZoneState z { v with tripped := false }).reply .ok []
      else s.refuse .badState)

/-- CLEAR_HALT (R164). -/
def execClearHalt (s : State) : Host.Outcome State Fault Refusal :=
  .next (s.command 0x51 fun s =>
    if s.sup.station = .halted ∧ s.sup.haltAsserted = false then s.clearHaltToHeld.reply .ok []
    else s.refuse .badState)

/-! ### RESTART and hard reset -/

/-- The bank link at RESTART: a LEAVE with the signature of the last START is queued where R23 requires one, and every
other item but the own number returns to its hard-reset value (R16, R22, R23, R30, R32, R34). -/
def State.restartBank (s : State) : BankLink :=
  { BankLink.reset s.bank.ownNumber with
    pendingLeave :=
      if s.sup.station ≠ .unconfigured ∧ 2 ≤ s.store.bank.stationCount then some s.bank.signature
      else s.bank.pendingLeave }

/-- The scanner at RESTART runs on; its accumulations and last averages are emptied (R56). -/
def Scanner.restart (c : Scanner) : Scanner :=
  { c with fpAcc := ⟨0, 0⟩, fcAcc := ⟨0, 0⟩, lastFp := 0, lastFc := 0 }

/-- The loader at RESTART and at hard reset: the values of R123, with the home switch as the plant holds it; the motion
ticks keep falling (R123, R127). -/
def Loader.restart (l : Loader) : Loader :=
  { Loader.reset with homeActive := l.homeActive, tickPhase := l.tickPhase }

/-- RESTART's effect on every block (R166). DESIGN CHOICE: a firing output that gates the half-cycle under way goes off at
once, where R73 and R166 say only that the half-cycle conducts to its zero-crossing (unsafe; log entry 26). -/
def State.restart (s : State) : State :=
  { s with
    timer := RoundTimer.reset
    bank := s.restartBank
    share := ShareUnit.reset
    scanner := s.scanner.restart
    zones := ZoneControl.reset
    ramp := Ramp.reset
    gas := Gas.reset
    loader := s.loader.restart
    exec := Executor.reset
    sup := { Supervisor.reset with haltAsserted := s.sup.haltAsserted }
    host := { s.host with reasons := 0, mask := maskableReasons } }

/-- RESTART (R166). -/
def execRestart (s : State) : Host.Outcome State Fault Refusal :=
  .next (s.command 0x5E fun s => s.restart.reply .ok [])

/-- The transaction state a hard reset leaves: DISCARDING while chip select is asserted (R169). -/
def TransactionState.afterHardReset : TransactionState → TransactionState
  | .idle => .idle
  | .receiving => .discarding
  | .discarding => .discarding

/-- Hard reset (R166): every block at its reset values, with the straps read (R16). The levels of the HALT line and of the
home switch are the plant's and stay. DESIGN CHOICE: a firing output that gates a half-cycle goes off at once (unsafe; log
entry 26). -/
def State.hardReset (s : State) (straps : StationNo) : State :=
  { s with
    timer := RoundTimer.reset
    bank := BankLink.reset straps
    share := ShareUnit.reset
    scanner := Scanner.reset
    zones := ZoneControl.reset
    ramp := Ramp.reset
    gas := Gas.reset
    loader := { Loader.reset with homeActive := s.loader.homeActive }
    exec := Executor.reset
    sup := { Supervisor.reset with haltAsserted := s.sup.haltAsserted }
    host := { HostPort.reset with transaction := s.host.transaction.afterHardReset } }

/-- HARD_RESET (R166). -/
def execHardReset (straps : StationNo) (s : State) : Host.Outcome State Fault Refusal := .next (s.hardReset straps)

end Sys2Proof.Machine
end

