-- ==== Sys2Proof/Machine/Dispatch.lean ====
section
/-! DEFINITION. The dispatch: one arm per constructor of Instr, each a direct call of that command's meaning. -/

namespace Sys2Proof.Machine

/-- A command's effect on everything but the queue. -/
def exec (i : Instr) (s : State) : Host.Outcome State Fault Refusal :=
  match i with
  | .hardReset straps => Sys2Proof.Machine.execHardReset straps s
  | .transactionBegin => Sys2Proof.Machine.execTransactionBegin s
  | .frameError => Sys2Proof.Machine.execFrameError s
  | .unknownCommand => Sys2Proof.Machine.execUnknownCommand s
  | .nop => Sys2Proof.Machine.execNop s
  | .setBank => Sys2Proof.Machine.execSetBank s
  | .setZone => Sys2Proof.Machine.execSetZone s
  | .setGas => Sys2Proof.Machine.execSetGas s
  | .setLoader => Sys2Proof.Machine.execSetLoader s
  | .setBand => Sys2Proof.Machine.execSetBand s
  | .start => Sys2Proof.Machine.execStart s
  | .append => Sys2Proof.Machine.execAppend s
  | .amend => Sys2Proof.Machine.execAmend s
  | .urgent => Sys2Proof.Machine.execUrgent s
  | .readStatus => Sys2Proof.Machine.execReadStatus s
  | .readZone => Sys2Proof.Machine.execReadZone s
  | .readLoader => Sys2Proof.Machine.execReadLoader s
  | .readPeer => Sys2Proof.Machine.execReadPeer s
  | .readQueue => Sys2Proof.Machine.execReadQueue s
  | .readOutcome => Sys2Proof.Machine.execReadOutcome s
  | .clearReasons => Sys2Proof.Machine.execClearReasons s
  | .setMask => Sys2Proof.Machine.execSetMask s
  | .setLowMark => Sys2Proof.Machine.execSetLowMark s
  | .resetTrip => Sys2Proof.Machine.execResetTrip s
  | .clearHalt => Sys2Proof.Machine.execClearHalt s
  | .restart => Sys2Proof.Machine.execRestart s
  | .zeroCrossEdge elapsed => Sys2Proof.Machine.execZeroCrossEdge elapsed s
  | .mainsLost => Sys2Proof.Machine.execMainsLost s
  | .substituteBoundary => Sys2Proof.Machine.execSubstituteBoundary s
  | .listeningEnd => Sys2Proof.Machine.execListeningEnd s
  | .firstWindowStart => Sys2Proof.Machine.execFirstWindowStart s
  | .windowStart => Sys2Proof.Machine.execWindowStart s
  | .ownSlot => Sys2Proof.Machine.execOwnSlot s
  | .announceSent => Sys2Proof.Machine.execAnnounceSent s
  | .transmitAttemptFail => Sys2Proof.Machine.execTransmitAttemptFail s
  | .leaveSent => Sys2Proof.Machine.execLeaveSent s
  | .sequencePosition => Sys2Proof.Machine.execSequencePosition s
  | .sharePosition => Sys2Proof.Machine.execSharePosition s
  | .controlPosition => Sys2Proof.Machine.execControlPosition s
  | .announceArrival frame => Sys2Proof.Machine.execAnnounceArrival frame s
  | .leaveArrival frame => Sys2Proof.Machine.execLeaveArrival frame s
  | .burnoutTest loopOhms => Sys2Proof.Machine.execBurnoutTest loopOhms s
  | .conversionComplete measured => Sys2Proof.Machine.execConversionComplete measured s
  | .motionTick => Sys2Proof.Machine.execMotionTick s
  | .speedUpdate => Sys2Proof.Machine.execSpeedUpdate s
  | .homeSwitchActivation => Sys2Proof.Machine.execHomeSwitchActivation s
  | .haltAssert => Sys2Proof.Machine.execHaltAssert s
  | .haltRelease => Sys2Proof.Machine.execHaltRelease s
  | .homeSwitchRelease => Sys2Proof.Machine.execHomeSwitchRelease s
  | .byteTime byteIn => Sys2Proof.Machine.execByteTime byteIn s
  | .chipSelectReleaseDiscarding => Sys2Proof.Machine.execChipSelectReleaseDiscarding s

end Sys2Proof.Machine
end

