-- ==== Sys2Proof/Safety.lean ====
section
/-! DEFINITION. What counts as a sound state of the part: the invariants behind the manual's laws L2, L6, L7, L9, L10 and L11 and
behind R4, R16, R24, R33, R132 and R168, each in a form that every step can be shown to keep from every state that has it. -/

namespace Sys2Proof.Machine

/-- The timer stays STOPPED through UNCONFIGURED and leaves it only when START is taken (R4). -/
def State.TimerInv (s : State) : Prop := s.sup.station = .unconfigured ↔ s.timer.timer = .stopped

/-- The host port: 32 bytes of buffer, a byte count that saturates at 255 (R168), a mask of maskable reasons (R175). -/
def State.HostInv (s : State) : Prop :=
  s.host.buffer.length = 32 ∧ s.host.byteCount ≤ 255 ∧ s.host.mask &&& ~~~maskableReasons = 0

/-- The ids of the queue are consecutive, and the next id follows the last of them (R142, R143). -/
def idsConsecutive (nextId : Nat) : List Nat → Prop
  | [] => True
  | [a] => nextId = nextSegmentId a
  | a :: b :: rest => b = nextSegmentId a ∧ idsConsecutive nextId (b :: rest)

/-- The executor: at most 16 records queued with consecutive ids in 1..65535, and at most 8 outcomes (L6, L11). -/
def State.QueueInv (s : State) : Prop :=
  s.exec.queue.length ≤ 16 ∧ s.exec.outcomes.length ≤ 8 ∧ (1 ≤ s.exec.nextId ∧ s.exec.nextId ≤ 65535)
    ∧ (∀ g ∈ s.exec.queue, 1 ≤ g.id ∧ g.id ≤ 65535)
    ∧ idsConsecutive s.exec.nextId (s.exec.queue.map Segment.id)

/-- The four stopped states of the loader (R139). -/
def LoaderState.isStopped : LoaderState → Bool
  | .atRest | .waitCurtain | .dwell | .stalled => true
  | .homing | .moving | .stopping => false

/-- Law L9: the position, when known, lies in 0..stroke; the speed is at most the maximum speed, and 0 in the stopped states
(R139). The other clauses are what keeps it: the targets lie in 0..stroke, and an UNCONFIGURED station's loader is at
rest. -/
def State.LoaderInv (s : State) : Prop :=
  s.TimerInv
    ∧ (∀ p, s.loader.position = some p → p ≤ s.store.loader.stroke)
    ∧ (1 ≤ s.store.loader.maxSpeed ∧ s.loader.speed ≤ s.store.loader.maxSpeed)
    ∧ (s.loader.state.isStopped = true → s.loader.speed = 0)
    ∧ s.loader.part.target ≤ s.store.loader.stroke
    ∧ (∀ g ∈ s.exec.queue, ∀ b, g.boat = some b → b.target ≤ s.store.loader.stroke)
    ∧ (s.sup.station = .unconfigured →
        s.loader.state = .atRest ∧ s.loader.position = none ∧ s.loader.part.target = 0 ∧ s.exec.queue = [])

/-- A targeted zone's setpoint lies between its start value and its target, and an untargeted zone has neither (law L7,
R92, R105). -/
def RampZone.Between (v : RampZone) : Prop :=
  match v.start, v.target with
  | some a, some b => ∃ p, v.setpoint = some p ∧ ((a ≤ p ∧ p ≤ b) ∨ (b ≤ p ∧ p ≤ a))
  | none, none => True
  | _, _ => False

/-- Law L7, with its other half: a setpoint lies in 0..the zone maximum (R105). -/
def State.RampInv (s : State) : Prop :=
  s.TimerInv
    ∧ (∀ z, (s.ramp.zones.get z).Between)
    ∧ (∀ z p, (s.ramp.zones.get z).setpoint = some p → p ≤ (s.store.zones.get z).maxTemp)
    ∧ (∀ z t, (s.ramp.zones.get z).target = some t → t ≤ (s.store.zones.get z).maxTemp)
    ∧ (s.sup.station = .unconfigured → ∀ z, (s.ramp.zones.get z).setpoint = none ∧ (s.ramp.zones.get z).target = none)

/-- Law L2 with what keeps it: after the half-cycle that begins at the present count, a zone has fired no more than its
pattern gives up to there; no duty passes N; and nothing has been fired outside a phased window (R80, R82). -/
def State.FiringInv (s : State) : Prop :=
  s.TimerInv
    ∧ (∀ z, (s.zones.zones.get z).dutyRunning ≤ s.n ∧ (s.zones.zones.get z).dutyNext ≤ s.n)
    ∧ (s.timer.timer = .phased → ∀ z, (s.zones.zones.get z).fired
        ≤ (s.zones.zones.get z).dutyRunning * min (s.timer.windowCount + 1) s.n / s.n)
    ∧ (s.timer.timer ≠ .phased → ∀ z, (s.zones.zones.get z).fired = 0)
    ∧ (s.sup.station = .unconfigured →
        ∀ z, (s.zones.zones.get z).dutyRunning = 0 ∧ (s.zones.zones.get z).dutyNext = 0)

/-- The bank link: counts in their ranges, SOLO exactly at three unsent rounds (R33, R34), and entries only for peers below
the configured station count, none while the station is UNCONFIGURED (R24, R30). -/
def State.BankInv (s : State) : Prop :=
  s.TimerInv
    ∧ s.bank.unsent ≤ 3 ∧ s.bank.duplicateHold ≤ 10 ∧ (s.bank.solo = true ↔ s.bank.unsent = 3)
    ∧ (∀ i, (s.bank.peers.get i).presence ≠ .absent →
        i ≠ s.bank.ownNumber ∧ i.val < s.store.bank.stationCount ∧ s.sup.station ≠ .unconfigured)
    ∧ (s.sup.station ≠ .unconfigured → s.bank.ownNumber.val < s.store.bank.stationCount)

/-- HALT is a stop cause exactly while the station is HALTED, and HOLD is one throughout HELD and only in HELD and HALTED
(R132, R163, R164). -/
def State.CauseInv (s : State) : Prop :=
  s.TimerInv
    ∧ (s.loader.causes.halt = true ↔ s.sup.station = .halted)
    ∧ (s.sup.station = .held → s.loader.causes.hold = true)
    ∧ (s.loader.causes.hold = true → s.sup.station = .held ∨ s.sup.station = .halted)

/-- What keeps law L10: a loader HOMING or MOVING has the curtain established, and no loss of it among its stop causes (R135,
R139). -/
def State.MotionInv (s : State) : Prop :=
  s.loader.state = .homing ∨ s.loader.state = .moving → s.gas.established = true ∧ s.loader.causes.curtain = false

/-- What the loader's state says of its stop causes (R126, R132, R133, R136): a loader HOMING, MOVING or WAIT_CURTAIN has none;
one MOVING knows its position; DWELL is a cause only of a stop, or of the state DWELL, at a known position, and always of that
state. -/
def Loader.StopInv (l : Loader) : Prop :=
  (l.state = .homing ∨ l.state = .moving ∨ l.state = .waitCurtain → l.causes = ⟨false, false, false, false, false⟩)
    ∧ (l.state = .moving → l.position ≠ none)
    ∧ (l.causes.dwell = true → (l.state = .stopping ∨ l.state = .dwell) ∧ l.position ≠ none)
    ∧ (l.state = .dwell → l.causes.dwell = true)

/-! ### Words for the statements -/

/-- A complete transaction stands in the buffer with a command code: the release of chip select takes that command (R168,
R171). -/
abbrev State.Taken (s : State) (code : Byte) : Prop :=
  s.host.transaction = .receiving ∧ s.host.byteCount = 32 ∧ s.host.buffer.getD 0 0 = code

/-- The host port after the taking of a command: the transaction is over and the reply slot holds the reply (R168, R170). -/
def HostPort.answered (h : HostPort) (code : Byte) (r : ResultCode) (st : StationState) (data : List Byte) : HostPort :=
  { h with transaction := .idle, dataOut := none, reply := ⟨r, code, st, h.reasons, data⟩ }

/-- A state whose only change is the answer of a command. -/
def State.answered (s : State) (code : Byte) (r : ResultCode) (data : List Byte) : State :=
  { s with host := s.host.answered code r s.sup.station data }

/-- A zone drives the half-cycle that begins at the next boundary, when that boundary ends no window: with c the count the
boundary reaches, the half-cycle is the (c + 1)-th (R2, R82). -/
def State.firesNext (s : State) (z : ZoneId) : Bool :=
  let v := s.zones.zones.get z
  let i := s.timer.windowCount + 2
  decide (i ≤ s.n ∧ v.dutyRunning * (i - 1) / s.n < v.dutyRunning * i / s.n ∧ v.firingStopped = false
    ∧ s.sup.station ≠ .unconfigured ∧ (s.store.zones.get z).inUse = true ∧ v.tripped = false)

/-- The zones after the firing decisions of the half-cycle that begins at the next boundary (R82). -/
def State.zonesFired (s : State) : ZoneControl :=
  { s.zones with
    zones := PerZone.ofFn fun z =>
      let v := s.zones.zones.get z
      { v with gate := s.firesNext z, fired := if s.firesNext z then v.fired + 1 else v.fired } }

/-- The round timer after a boundary that ends no window (R2). -/
def RoundTimer.counted (t : RoundTimer) : RoundTimer :=
  { t with windowCount := t.windowCount + 1, boundarySeen := true }

/-- What a boundary does that ends no window, apart from the work of the position it reaches. -/
def State.nextHalfCycle (s : State) : State := { s with timer := s.timer.counted, zones := s.zonesFired }

/-- The next boundary reaches a count inside the running window. -/
abbrev State.NextReaches (s : State) (count : Nat) : Prop :=
  s.timer.timer = .phased ∧ s.timer.windowCount + 1 = count ∧ count < s.endCount

/-- The next boundary ends the running window, whatever its length (R2). -/
abbrev State.EndsWindow (s : State) : Prop := s.timer.timer = .phased ∧ s.timer.windowCount + 1 = s.endCount

/-- A boundary is counted, before any work of it (R2). -/
def State.counted (s : State) : State := { s with timer := s.timer.counted }

/-- A state whose window ends at the boundary counted, at its window start: the sequence, share and control positions that a
shortened window cuts off have done their work there, in this order, and a slot that is cut off is not raised (R14). In a
window whose positions were all reached, it is the state counted. -/
def State.atWindowEnd (s : State) : State :=
  let a := if s.endCount ≤ s.n - 20 then s.counted.sequenceWork else s.counted
  let b := if s.endCount ≤ s.n - 16 then a.shareWork else a
  if s.endCount ≤ s.n - 10 then b.controlWork else b

/-- An edge e after the last boundary counts one boundary while the mains is present: it is the first after START, or e is
from h/2 up to, not including, 3h/2 (R1). -/
abbrev State.EdgeCountsOne (s : State) (e : Nat) : Prop :=
  s.timer.mains = .present ∧ (s.timer.boundarySeen = false ∨ (s.threeH ≤ 6 * e ∧ 6 * e < 3 * s.threeH))

/-- The next boundary is a row's event, however it comes: as a substitute boundary, as an edge that counts one boundary, or
as the edge that restores the mains at h/2 or later (R1, R6, R7). -/
abbrev State.NextBoundaryIs (s : State) (row : Instr) : Prop :=
  (s.timer.mains = .lost → Machine.exec .substituteBoundary s = Machine.exec row s)
    ∧ ∀ e, (s.EdgeCountsOne e → Machine.exec (.zeroCrossEdge e) s = Machine.exec row s)
      ∧ (s.timer.mains = .lost → s.threeH ≤ 6 * e →
          Machine.exec (.zeroCrossEdge e) s = Machine.exec row { s with timer := { s.timer with mains := .present } })

/-- The dwell check has nothing to judge (R136). -/
abbrev Loader.NoDwell (l : Loader) : Prop := l.causes.dwell = false ∧ l.state ≠ .dwell ∧ l.part.dwellBand = 0

/-- Some zone that the dwell check considers lags, under these setpoints, by more than a bound: in use, a setpoint present,
its reading VALID (R136). -/
abbrev State.Lags (s : State) (r : Ramp) (bound : Nat) : Prop :=
  ∃ z p, (s.store.zones.get z).inUse = true ∧ (r.zones.get z).setpoint = some p
    ∧ (s.scanner.ct.get z).status = .valid ∧ (s.scanner.ct.get z).value + bound < p

/-- The blocks of `t` have taken the parts of a segment from what they held before: ramp generator `r`, gas unit `a`, loader
`l`, in the store and with the readings of `s`. An absent part leaves its block without one (R92, R93, R111, R125); that the
other fields of the three part records then stay as they were is the model's choice (log entries 27 and 30). The window of a
gas part's taking is noted (R115, log entry 28). -/
def Segment.TakenBy (g : Segment) (s : State) (r : Ramp) (a : Gas) (l : Loader) (t : State) : Prop :=
  (g.thermal = none → t.ramp = { r with
      zones := PerZone.ofFn fun z => { r.zones.get z with start := none, target := none }
      partCurrent := false })
  ∧ (∀ h, g.thermal = some h →
      t.ramp = ⟨t.ramp.zones, true, min h.rate 1000, min h.guardBand 500, 1, false, ⟨false, false, false, false⟩, false, 0⟩
      ∧ ∀ z, (∀ v, h.targets.get z = some v → (s.store.zones.get z).inUse = true →
            let start := match (r.zones.get z).setpoint with
              | some p => p
              | none => if (s.scanner.ct.get z).status = .valid
                  then min (s.scanner.ct.get z).value (s.store.zones.get z).maxTemp else 0
            t.ramp.zones.get z = { r.zones.get z with
              setpoint := some start
              start := some start
              target := some (min v (s.store.zones.get z).maxTemp) })
          ∧ (h.targets.get z = none ∨ (s.store.zones.get z).inUse = false →
            t.ramp.zones.get z = { r.zones.get z with start := none, target := none }))
  ∧ (g.gas = none → t.gas = { a with part := { a.part with current := false, volume := 0 } })
  ∧ (∀ p, g.gas = some p → t.gas = { a with
      part := ⟨true, p.flow, p.litres, p.litres * (if s.store.bank.mainsCode = 0 then 12000 else 14400), 0, false⟩
      takenInWindow := true })
  ∧ (g.boat = none → t.loader = { l with dwellTotal := 0, part := { l.part with current := false } })
  ∧ ∀ b, g.boat = some b → t.loader
      = ({ l with dwellTotal := 0, part := ⟨true, b.target, b.speed, b.dwellBand, b.maxDwell, false⟩ } : Loader).motionStart
          a.established

/-- The current segment after a window start that finds the station in a state, its ramp step held by CURTAILED or not (R152,
R153). -/
def CurrentSegment.afterWindow (c : CurrentSegment) (st : StationState) (curtailed : Bool) : CurrentSegment :=
  { c with
    windows := if st = .running then min 65535 (c.windows + 1) else c.windows
    heldWindows := if st = .held then min 65535 (c.heldWindows + 1) else c.heldWindows
    curtailedWindows := if curtailed then min 65535 (c.curtailedWindows + 1) else c.curtailedWindows }

/-- The current segment `c` of `q` has ended with a result, and `t` is what is left: its outcome heads the list of at most
eight, SEGMENT_DONE is raised and its parts leave; in RUNNING the head of the queue becomes current, or the station goes to
IDLE with QUEUE_EMPTY (R94, R111, R125, R144, R155 to R157). What the three part records keep, where R94, R111 and R125 do not
name it, is the model's choice (log entries 27 and 30). -/
def State.EndsSegment (q : State) (c : CurrentSegment) (r : SegmentResult) (t : State) : Prop :=
  let ramp : Ramp := { q.ramp with
    zones := PerZone.ofFn fun z => { q.ramp.zones.get z with start := none, target := none }
    partCurrent := false }
  let gas : Gas := { q.gas with part := { q.gas.part with current := false } }
  let loader : Loader := { q.loader with
    part := { q.loader.part with current := false }
    causes := { q.loader.causes with curtain := false, dwell := false, skip := false }
    state := if q.loader.state = .waitCurtain ∨ q.loader.state = .dwell then .atRest else q.loader.state }
  let outcomes := (⟨c.record.id, r, c.windows, c.heldWindows, c.curtailedWindows,
    if c.record.boat.isSome then q.loader.dwellTotal else 0,
    if c.record.gas.isSome then q.gas.part.volume / (if q.store.bank.mainsCode = 0 then 12000 else 14400) else 0,
    if c.record.thermal.isSome then q.ramp.largestDeviation else 0⟩ :: q.exec.outcomes).take 8
  (q.sup.station ≠ .running → t.sup = q.sup ∧ t.exec = { q.exec with current := none, outcomes := outcomes }
      ∧ t.host = { q.host with reasons := q.host.reasons ||| 0x0200 }
      ∧ t.ramp = ramp ∧ t.gas = gas ∧ t.loader = loader)
  ∧ (q.sup.station = .running → q.exec.queue = [] →
      t.sup = { q.sup with station := .idle } ∧ t.exec = { q.exec with current := none, outcomes := outcomes }
      ∧ t.host = { q.host with reasons := q.host.reasons ||| 0x0A00 }
      ∧ t.ramp = ramp ∧ t.gas = gas ∧ t.loader = loader)
  ∧ ∀ g rest, q.sup.station = .running → q.exec.queue = g :: rest →
      t.sup = q.sup
      ∧ t.exec = { q.exec with queue := rest, current := some ⟨g, 0, 0, 0, false⟩, outcomes := outcomes }
      ∧ t.host = { q.host with reasons := q.host.reasons ||| 0x0200
          ||| (if 0 < q.exec.lowMark ∧ rest.length ≤ q.exec.lowMark then 0x0400 else 0) }
      ∧ g.TakenBy q ramp gas loader t

/-- A current segment is DONE in a state: RUNNING, not skip pending, every part it has complete and its minimum duration passed
(R154). -/
def CurrentSegment.DoneIn (c : CurrentSegment) (q : State) : Prop :=
  c.skipPending = false ∧ q.sup.station = .running ∧ (c.record.thermal.isSome = true → q.ramp.complete = true)
    ∧ (c.record.gas.isSome = true → q.gas.part.complete = true)
    ∧ (c.record.boat.isSome = true → q.loader.part.complete = true) ∧ c.record.minDuration ≤ c.windows

/-- A current segment ends SKIPPED in a state: skip pending, in RUNNING, HELD or HALTED, and no boat of it in motion (R149). -/
def CurrentSegment.SkippedIn (c : CurrentSegment) (q : State) : Prop :=
  c.skipPending = true ∧ (q.sup.station = .running ∨ q.sup.station = .held ∨ q.sup.station = .halted)
    ∧ (c.record.boat = none ∨ q.loader.inMotion = false)

/-- Every block that the sequence position writes is the same in two states. -/
def State.SameSequenceBlocks (w t : State) : Prop :=
  t.sup = w.sup ∧ t.exec = w.exec ∧ t.host = w.host ∧ t.ramp = w.ramp ∧ t.gas = w.gas ∧ t.loader = w.loader

/-- The head `g` of the queue of `w`, an IDLE station's, has become current, with `rest` left behind it: the station is RUNNING,
each present part has gone to its block, and QUEUE_LOW is judged by the length left (R144, R156). -/
def State.StartsHead (w : State) (g : Segment) (rest : List Segment) (t : State) : Prop :=
  t.sup = { w.sup with station := .running }
    ∧ t.exec = { w.exec with queue := rest, current := some ⟨g, 0, 0, 0, false⟩ }
    ∧ t.host = { w.host with reasons := w.host.reasons
        ||| (if 0 < w.exec.lowMark ∧ rest.length ≤ w.exec.lowMark then 0x0400 else 0) }
    ∧ g.TakenBy w w.ramp w.gas w.loader t

/-- `t` is what the third step of the sequence position leaves of `w`: a current segment ends DONE or SKIPPED or stays (R149,
R154, R155), and an IDLE station without one takes the head of its queue (R156). -/
def State.JudgesSegment (w t : State) : Prop :=
  (∀ c, w.exec.current = some c →
    (c.DoneIn w → w.EndsSegment c .done t)
    ∧ (c.SkippedIn w → w.EndsSegment c .skipped t)
    ∧ (¬ c.DoneIn w → ¬ c.SkippedIn w → w.SameSequenceBlocks t))
  ∧ (w.exec.current = none →
    (∀ g rest, w.sup.station = .idle → w.exec.queue = g :: rest → w.StartsHead g rest t)
    ∧ ((w.sup.station ≠ .idle ∨ w.exec.queue = []) → w.SameSequenceBlocks t))

/-- Scanner, ramp generator, gas unit, loader and executor are the same in two states. -/
def State.SameTube (s t : State) : Prop :=
  t.scanner = s.scanner ∧ t.ramp = s.ramp ∧ t.gas = s.gas ∧ t.loader = s.loader ∧ t.exec = s.exec

/-- A station counts as heard in the running window (R11). -/
def State.Heard (s : State) (i : StationNo) : Prop :=
  if i = s.bank.ownNumber then s.timer.ownHeard = true else ∃ j, s.timer.judged.get i = some j ∧ j.heard = true

/-- The phase candidate is the one R11 gives for the stations heard. -/
def State.CandidateRight (s : State) : Prop :=
  ((∀ i, ¬ s.Heard i) → s.timer.candidate = none)
    ∧ ∀ i, s.Heard i → (∀ k, k < i → ¬ s.Heard k) →
      (i = s.bank.ownNumber → s.timer.candidate = none)
        ∧ (i ≠ s.bank.ownNumber → ∀ j, s.timer.judged.get i = some j →
            s.timer.candidate = if j.disagrees then some ⟨i, j.count, j.round⟩ else none)

end Sys2Proof.Machine
end

