-- ==== Sys2Proof/Certificates/Slice0/Obligations.lean ====
section
/-! DEFINITION. The statements for the provers, each formalising what the manual says of a command, a block or the whole
part. `s.Taken code` says that the release of chip select takes the command of that code, and `answered` that the reply
slot then holds the given reply; both stand in Safety.lean. That a host command's row is the release of chip select that
takes it is the model's choice (log entry 7), as it is that a position's row is the boundary that reaches it (log entry 8);
every statement about such a row rests on it. Every exact next state of a host command also rests on log entry 21: the release
keeps the byte count and TRANSACTION_BEGIN keeps the buffer. -/

section

open Sys2Proof Sys2Proof.Machine

/-! ### The queue -/

/-- A step takes the command at the front of the queue and runs it with the queue's rest; on an empty queue the part idles
(log entry 1). -/
def Obligations.StepRunsTheFrontCommand : Prop :=
  (∀ (c : Instr) (rest : List Instr) (s : State), s.pending = c :: rest → step s = exec c { s with pending := rest })
    ∧ ∀ s : State, s.pending = [] → step s = .next s

/-- Every command answers a next state in every state, and leaves the queue as it is. That no command ends in a fault or a
refusal is the model's choice, DEDUCED (log entry 18), and the queue is the model's own (log entry 1). -/
def Obligations.EveryCommandLeavesTheQueue : Prop :=
  ∀ (c : Instr) (s : State), ∃ t, exec c s = .next t ∧ t.pending = s.pending

/-! ### The host port (chapter 11) -/

/-- TRANSACTION_BEGIN, the two releases that take no command, and FRAME_ERROR's reply (R168, R169). NOP gives OK and a data
field of 0 and changes nothing (R170); a code that names no command is refused with UNKNOWN and changes nothing (R171).
BYTE_TIME: while RECEIVING the byte count n rises, saturating at 255, bytes 1 to 32 fill the buffer in order, and the n-th
byte of the reply, or 0 beyond the 32nd, is clocked out; while chip select is released nothing happens (R168); in DISCARDING
nothing is stored or counted, and the byte clocked out is open (R169, log entry 5). -/
def Obligations.TransactionsCarryBytesAndReplies : Prop :=
  (((∀ s : State, s.host.transaction = .idle →
    exec .transactionBegin s = .next { s with host := { s.host with transaction := .receiving, byteCount := 0 } })
  ∧ (∀ s : State, s.host.transaction = .discarding →
    exec .chipSelectReleaseDiscarding s
      = .next { s with host := { s.host with transaction := .idle, dataOut := none } })
  ∧ ∀ s : State, s.host.transaction = .receiving → s.host.byteCount ≠ 32 →
    exec .frameError s
      = .next (s.answered (if s.host.byteCount = 0 then 0 else s.host.buffer.getD 0 0) .frameError
          [BitVec.ofNat 8 s.host.byteCount]))
  ∧ ((∀ s : State, s.Taken 0x01 → exec .nop s = .next (s.answered 0x01 .ok []))
  ∧ ∀ (s : State) (code : Byte), s.Taken code →
    code ∉ ([0x01, 0x10, 0x11, 0x12, 0x13, 0x14, 0x1F, 0x20, 0x21, 0x22, 0x30, 0x31, 0x32, 0x33, 0x34, 0x35, 0x40, 0x41,
      0x42, 0x50, 0x51, 0x5E] : List Byte) →
    exec .unknownCommand s = .next (s.answered code .unknown [])))
  ∧ (∀ (s : State) (b : Byte), s.host.transaction = .receiving →
    exec (.byteTime b) s
      = .next { s with host := { s.host with
          byteCount := min 255 (s.host.byteCount + 1)
          buffer := if s.host.byteCount < 32 then s.host.buffer.set s.host.byteCount b else s.host.buffer
          dataOut := some (if s.host.byteCount < 32 then
              ([BitVec.ofNat 8 s.host.reply.result.code, s.host.reply.command,
                BitVec.ofNat 8 s.host.reply.station.code, BitVec.ofNat 8 (s.host.reply.reasons.toNat / 256),
                BitVec.ofNat 8 s.host.reply.reasons.toNat] ++ s.host.reply.data).getD s.host.byteCount 0
            else 0) } })
  ∧ (∀ (s : State) (b : Byte), s.host.transaction = .idle → exec (.byteTime b) s = .next s)
  ∧ ∀ (s : State) (b : Byte), s.host.transaction = .discarding →
    ∃ out, exec (.byteTime b) s
      = .next { s with host := { s.host with dataOut := some out }, freeIndex := s.freeIndex + 1 }

/-- READ_STATUS returns the pages of section 12.1 and changes nothing but the reply (R172, R177). -/
def Obligations.ReadStatusReturnsItsPages : Prop :=
  ∀ s : State, s.Taken 0x30 →
    ∃ data, exec .readStatus s = .next (s.answered 0x30 .ok data)
      ∧ (byteAt s.host.buffer 2 = 0 →
          data = one s.timer.timer.code ++ one s.timer.mains.code ++ one s.timer.round ++ two s.timer.windowCount
            ++ two s.timer.lastLength ++ one s.sup.joiningCount ++ yesNo s.sup.haltAsserted
            ++ two s.store.bank.powerLimit ++ one s.store.bank.headerCapacity ++ one s.store.bank.stationCount
            ++ one s.store.bank.mainsCode ++ one s.store.bank.priority)
      ∧ (byteAt s.host.buffer 2 = 1 →
          data = two s.share.powerGrant ++ one s.share.nitrogenGrant ++ two s.share.countedPower
            ++ one s.share.countedNitrogen ++ two s.share.powerFirmGrant ++ one s.share.nitrogenFirmGrant
            ++ one (flagBits [s.share.powerShort, s.share.nitrogenShort, s.share.capApplied])
            ++ two s.zones.powerFirm ++ two s.zones.powerExtra)
      ∧ (byteAt s.host.buffer 2 = 2 →
          let c := s.scanner
          let reading := fun r : Reading => two r.value ++ one (r.status.code * 16 + r.age)
          data = reading c.cj ++ reading c.ref ++ reading c.fp ++ reading c.fc ++ one c.cjCheck.code ++ one c.refCheck.code
            ++ one c.lastFp ++ one c.lastFc)
      ∧ (byteAt s.host.buffer 2 = 3 →
          data = yesNo s.ramp.partCurrent ++ two s.ramp.rate ++ two s.ramp.guardBand ++ one s.ramp.pattern
            ++ yesNo s.ramp.held
            ++ one (flagBits [s.ramp.causes.curtailed, s.ramp.causes.guard, s.ramp.causes.reading, s.ramp.causes.station])
            ++ yesNo s.ramp.complete ++ two s.ramp.largestDeviation)
      ∧ (byteAt s.host.buffer 2 = 4 →
          let g := s.gas
          let flows := fun c : Commanded => one c.curtain ++ one c.purge ++ yesNo c.partFlow
          data = yesNo g.required ++ one g.purgeDemand ++ one g.nitrogenFirm ++ one g.nitrogenExtra ++ flows g.next
            ++ flows g.running ++ one g.faultCount ++ yesNo g.faultReported ++ yesNo g.established ++ yesNo g.lost
            ++ one g.good ++ one g.bad)
      ∧ (byteAt s.host.buffer 2 = 5 →
          data = yesNo s.gas.part.current ++ one s.gas.part.flow ++ two s.gas.part.litres ++ four s.gas.part.target
            ++ four s.gas.part.volume ++ yesNo s.gas.part.complete)
      ∧ (5 < byteAt s.host.buffer 2 → data = [])

/-- READ_ZONE and READ_LOADER return their pages and change nothing but the reply (R172, R177). The bytes of an absent band
and of an absent approach limit are 0 by log entry 16. -/
def Obligations.ReadZoneAndLoaderReturnTheirPages : Prop :=
  (∀ (s : State) (z : ZoneId), s.Taken 0x31 → byteAt s.host.buffer 2 = z.index →
    ∃ data, exec .readZone s = .next (s.answered 0x31 .ok data)
      ∧ (byteAt s.host.buffer 3 = 0 →
          let c := s.store.zones.get z
          data = yesNo c.inUse ++ one c.rated ++ one c.kp ++ one c.ki ++ two c.maxTemp ++ two c.overLimit
            ++ two c.spanStart ++ two c.spanEnd ++ two c.feedForward)
      ∧ (byteAt s.host.buffer 3 = 1 →
          let v := s.zones.zones.get z
          data = two v.integral ++ two v.demand ++ one v.powerDemand ++ one v.zoneClass.code ++ one v.granted
            ++ one v.dutyNext ++ yesNo v.curtailedNext ++ one v.dutyRunning ++ yesNo v.curtailed ++ one v.fired
            ++ one (flagBits [v.firingStopped, v.tripped, s.contactorClosed z, v.openHold]) ++ one v.recovery)
      ∧ (byteAt s.host.buffer 3 = 2 →
          data = (s.scanner.ct.get z).bytes ++ (s.scanner.lt.get z).bytes
            ++ twoOrAbsent (s.ramp.zones.get z).setpoint ++ twoOrAbsent (s.ramp.zones.get z).start
            ++ twoOrAbsent (s.ramp.zones.get z).target ++ one (s.ramp.zones.get z).state.code)
      ∧ (2 < byteAt s.host.buffer 3 → data = []))
  ∧ ∀ s : State, s.Taken 0x32 →
    ∃ data, exec .readLoader s = .next (s.answered 0x32 .ok data)
      ∧ (byteAt s.host.buffer 2 = 0 →
          data = twoOrAbsent s.loader.position ++ one s.loader.speed ++ one s.loader.direction.code
            ++ one s.loader.state.code
            ++ one (flagBits [s.loader.causes.hold, s.loader.causes.halt, s.loader.causes.curtain, s.loader.causes.dwell,
                s.loader.causes.skip])
            ++ yesNo s.loader.braking
            ++ (match s.loader.approach with
                | some a => one a.band.val ++ one a.limit
                | none => [0xFF, 0])
            ++ two s.loader.homingTravel ++ two s.loader.dwellTotal ++ one s.loader.pattern
            ++ yesNo s.loader.homeActive ++ yesNo s.loader.part.current ++ two s.loader.part.target
            ++ one s.loader.part.speed ++ two s.loader.part.dwellBand ++ two s.loader.part.maxDwell
            ++ yesNo s.loader.part.complete)
      ∧ (let band := fun i =>
            match s.store.bands.get i with
            | some b => two b.first ++ two b.last ++ one b.limit
            | none => [0, 0, 0, 0, 0]
        (byteAt s.host.buffer 2 = 1 →
            let c := s.store.loader
            data = two c.stroke ++ one c.maxSpeed ++ one c.accel ++ one c.stopStep ++ one c.homingSpeed
              ++ (band 0 ++ band 1 ++ band 2 ++ band 3))
        ∧ (byteAt s.host.buffer 2 = 2 → data = band 4 ++ band 5 ++ band 6 ++ band 7))
      ∧ (2 < byteAt s.host.buffer 2 → data = [])

/-- READ_PEER returns a peer entry, or the bank link's own state for the own number (R37, R38); READ_QUEUE and READ_OUTCOME
return their entries by index, and no entry beyond the collection (R158). None changes anything but the reply. The bytes of an
absent part of a record are those of log entry 16; the 25 bytes of a record and the eight of the shadow are spelled out in
AppendAddsTheClampedRecord and AmendsReachTheShadowAndThenTheSegment. -/
def Obligations.ReadPeerQueueAndOutcomeReturnTheirEntries : Prop :=
  (∀ (s : State) (i : StationNo), s.Taken 0x33 → byteAt s.host.buffer 2 = i.val → i ≠ s.bank.ownNumber →
    let e := s.bank.peers.get i
    exec .readPeer s = .next (s.answered 0x33 .ok
      (one 0 ++ one e.presence.code ++ yesNo e.heard ++ one e.lastRound ++ one e.age ++ one e.figures.station.code
        ++ one e.figures.priority ++ two e.figures.powerFirm ++ two e.figures.powerExtra ++ one e.figures.nitrogenFirm
        ++ one e.figures.nitrogenExtra ++ yesNo e.agrees)))
  ∧ (∀ s : State, s.Taken 0x33 → byteAt s.host.buffer 2 = s.bank.ownNumber.val →
    let r := s.bank.record
    exec .readPeer s = .next (s.answered 0x33 .ok
      (one 1 ++ one r.status.code ++ one r.round ++ one r.figures.station.code ++ one r.figures.priority
        ++ two r.figures.powerFirm ++ two r.figures.powerExtra ++ one r.figures.nitrogenFirm
        ++ one r.figures.nitrogenExtra ++ one r.signature ++ one s.bank.signature ++ one s.bank.unsent
        ++ yesNo s.bank.solo ++ one s.bank.duplicateHold)))
  ∧ (∀ s : State, s.Taken 0x34 →
    ∃ data, exec .readQueue s = .next (s.answered 0x34 .ok data)
      ∧ (byteAt s.host.buffer 3 = 0 → ∀ c, s.exec.current = some c → data = two c.record.id ++ c.record.bytes)
      ∧ (byteAt s.host.buffer 3 = 0 → s.exec.current = none → data = [0, 0])
      ∧ (byteAt s.host.buffer 3 = 1 → ∀ h : byteAt s.host.buffer 2 < s.exec.queue.length,
          data = two (s.exec.queue[byteAt s.host.buffer 2]'h).id ++ (s.exec.queue[byteAt s.host.buffer 2]'h).bytes)
      ∧ (byteAt s.host.buffer 3 = 1 → s.exec.queue.length ≤ byteAt s.host.buffer 2 → data = [0, 0])
      ∧ (byteAt s.host.buffer 3 = 2 →
          let e := s.exec
          let kind := fun k : Option UrgentKind => match k with
            | some k => one k.code
            | none => [0]
          data = (match e.current with
              | some c => two c.windows ++ two c.heldWindows ++ two c.curtailedWindows ++ yesNo c.skipPending
              | none => [0, 0, 0, 0, 0, 0, 0])
            ++ one e.queue.length ++ e.shadow.bytes ++ kind e.urgent ++ kind e.lastKind ++ one e.lastResult.code
            ++ two e.nextId ++ one e.lowMark)
      ∧ (2 < byteAt s.host.buffer 3 → data = []))
  ∧ ∀ s : State, s.Taken 0x35 →
    ∃ data, exec .readOutcome s = .next (s.answered 0x35 .ok data)
      ∧ (∀ h : byteAt s.host.buffer 2 < s.exec.outcomes.length,
          let o := s.exec.outcomes[byteAt s.host.buffer 2]'h
          data = two o.id ++ one o.result.code ++ two o.windows ++ two o.heldWindows ++ two o.curtailedWindows
            ++ two o.dwellTotal ++ two o.litres ++ two o.largestDeviation)
      ∧ (s.exec.outcomes.length ≤ byteAt s.host.buffer 2 → data = [0, 0])

/-! ### Configuration (R70, R108, R121, R122, R159 to R161) -/

/-- The configuration commands in UNCONFIGURED store their figures, each clamped, echo them, and change nothing else. SET_BANK
stores its five figures (R159), SET_ZONE one zone's record, its echo beginning with the index (R70, log entry 16), SET_GAS and
SET_LOADER theirs; a curtain minimum above the curtain flow is lowered to it, and a stop step below the stored acceleration
step is raised to it (R108, R121). SET_BAND replaces one entry of the band table by a clamped band or by the absence of one,
whose echo is 0 after the index (R122, log entry 16). -/
def Obligations.ConfigurationCommandsStoreClampedFigures : Prop :=
  ((∀ s : State, s.Taken 0x10 → s.sup.station = .unconfigured →
    let b := s.host.buffer
    let stored : BankFigures :=
      ⟨min (wordAt b 2) 4095, byteAt b 4, max 1 (min (byteAt b 5) 8), min (byteAt b 6) 1, min (byteAt b 7) 15⟩
    exec .setBank s
      = .next (({ s with sup := { s.sup with store := { s.sup.store with bank := stored } } } : State).answered 0x10
          (if wordAt b 2 ≤ 4095 ∧ 1 ≤ byteAt b 5 ∧ byteAt b 5 ≤ 8 ∧ byteAt b 6 ≤ 1 ∧ byteAt b 7 ≤ 15 then .ok
            else .okClamped)
          (two stored.powerLimit ++ one stored.headerCapacity ++ one stored.stationCount ++ one stored.mainsCode
            ++ one stored.priority)))
  ∧ (∀ (s : State) (z : ZoneId), s.Taken 0x11 → s.sup.station = .unconfigured → byteAt s.host.buffer 2 = z.index →
    let b := s.host.buffer
    let stored : ZoneConfig :=
      ⟨decide (byteAt b 3 ≠ 0), max 1 (min (byteAt b 4) 200), byteAt b 5, byteAt b 6, min (wordAt b 7) 13500,
        min (wordAt b 9) 15000, min (wordAt b 11) 30000, min (wordAt b 13) 30000, min (wordAt b 15) 300⟩
    exec .setZone s
      = .next (({ s with sup := { s.sup with store :=
            { s.sup.store with zones := s.sup.store.zones.set z stored } } } : State).answered 0x11
          (if 1 ≤ byteAt b 4 ∧ byteAt b 4 ≤ 200 ∧ wordAt b 7 ≤ 13500 ∧ wordAt b 9 ≤ 15000 ∧ wordAt b 11 ≤ 30000
              ∧ wordAt b 13 ≤ 30000 ∧ wordAt b 15 ≤ 300 then .ok
            else .okClamped)
          (one z.index ++ yesNo stored.inUse ++ one stored.rated ++ one stored.kp ++ one stored.ki ++ two stored.maxTemp
            ++ two stored.overLimit ++ two stored.spanStart ++ two stored.spanEnd ++ two stored.feedForward))))
  ∧ ((∀ s : State, s.Taken 0x12 → s.sup.station = .unconfigured →
    let b := s.host.buffer
    let stored : GasConfig :=
      ⟨min (byteAt b 2) 80, min (byteAt b 3) (min (byteAt b 2) 80), min (byteAt b 4) 200⟩
    exec .setGas s
      = .next (({ s with sup := { s.sup with store := { s.sup.store with gas := stored } } } : State).answered 0x12
          (if byteAt b 2 ≤ 80 ∧ byteAt b 3 ≤ byteAt b 2 ∧ byteAt b 4 ≤ 200 then .ok else .okClamped)
          (one stored.curtainFlow ++ one stored.curtainMin ++ one stored.idlePurge)))
  ∧ ∀ s : State, s.Taken 0x13 → s.sup.station = .unconfigured →
    let b := s.host.buffer
    let a := max 1 (min (byteAt b 5) 20)
    let stored : LoaderConfig :=
      ⟨max 1000 (min (wordAt b 2) 30000), max 1 (min (byteAt b 4) 100), a, max a (min (byteAt b 6) 50),
        max 1 (min (byteAt b 7) 100)⟩
    exec .setLoader s
      = .next (({ s with sup := { s.sup with store := { s.sup.store with loader := stored } } } : State).answered 0x13
          (if 1000 ≤ wordAt b 2 ∧ wordAt b 2 ≤ 30000 ∧ 1 ≤ byteAt b 4 ∧ byteAt b 4 ≤ 100 ∧ 1 ≤ byteAt b 5
              ∧ byteAt b 5 ≤ 20 ∧ byteAt b 5 ≤ byteAt b 6 ∧ byteAt b 6 ≤ 50 ∧ 1 ≤ byteAt b 7 ∧ byteAt b 7 ≤ 100
            then .ok else .okClamped)
          (two stored.stroke ++ one stored.maxSpeed ++ one stored.accel ++ one stored.stopStep
            ++ one stored.homingSpeed)))
  ∧ (∀ (s : State) (i : Fin 8), s.Taken 0x14 → s.sup.station = .unconfigured → byteAt s.host.buffer 2 = i.val →
    let b := s.host.buffer
    (byteAt b 3 ≠ 0 →
      let stored : Band := ⟨min (wordAt b 4) 30000, min (wordAt b 6) 30000, max 1 (min (byteAt b 8) 100)⟩
      exec .setBand s
        = .next (({ s with sup := { s.sup with store :=
              { s.sup.store with bands := s.sup.store.bands.set i (some stored) } } } : State).answered 0x14
            (if wordAt b 4 ≤ 30000 ∧ wordAt b 6 ≤ 30000 ∧ 1 ≤ byteAt b 8 ∧ byteAt b 8 ≤ 100 then .ok else .okClamped)
            (one i.val ++ [1] ++ two stored.first ++ two stored.last ++ one stored.limit)))
    ∧ (byteAt b 3 = 0 →
      exec .setBand s
        = .next (({ s with sup := { s.sup with store :=
              { s.sup.store with bands := s.sup.store.bands.set i none } } } : State).answered 0x14 .ok
            (one i.val ++ [0, 0, 0, 0, 0, 0]))))

/-- Outside UNCONFIGURED the five configuration commands and START are refused with BAD_STATE and change nothing (R70, R108,
R121, R122, R159, R160); an object that does not exist is refused with BAD_VALUE in every state (R171). -/
def Obligations.RefusedCommandsChangeNothing : Prop :=
  (∀ s : State, s.sup.station ≠ .unconfigured →
    (s.Taken 0x10 → exec .setBank s = .next (s.answered 0x10 .badState []))
    ∧ (s.Taken 0x11 → byteAt s.host.buffer 2 ≤ 4 → exec .setZone s = .next (s.answered 0x11 .badState []))
    ∧ (s.Taken 0x12 → exec .setGas s = .next (s.answered 0x12 .badState []))
    ∧ (s.Taken 0x13 → exec .setLoader s = .next (s.answered 0x13 .badState []))
    ∧ (s.Taken 0x14 → byteAt s.host.buffer 2 ≤ 7 → exec .setBand s = .next (s.answered 0x14 .badState []))
    ∧ (s.Taken 0x1F → exec .start s = .next (s.answered 0x1F .badState [])))
  ∧ ∀ s : State,
    (s.Taken 0x11 → 4 < byteAt s.host.buffer 2 → exec .setZone s = .next (s.answered 0x11 .badValue []))
    ∧ (s.Taken 0x14 → 7 < byteAt s.host.buffer 2 → exec .setBand s = .next (s.answered 0x14 .badValue []))
    ∧ (s.Taken 0x31 → 4 < byteAt s.host.buffer 2 → exec .readZone s = .next (s.answered 0x31 .badValue []))
    ∧ (s.Taken 0x33 → 7 < byteAt s.host.buffer 2 → exec .readPeer s = .next (s.answered 0x33 .badValue []))
    ∧ (s.Taken 0x50 → 4 < byteAt s.host.buffer 2 → exec .resetTrip s = .next (s.answered 0x50 .badValue []))
    ∧ (s.Taken 0x22 → (byteAt s.host.buffer 2 = 0 ∨ 4 < byteAt s.host.buffer 2) →
        exec .urgent s = .next (s.answered 0x22 .badValue []))

/-- START refuses a store with the code and index of the first check that fails, and changes nothing (R160). -/
def Obligations.StartNamesTheFirstFailingCheck : Prop :=
  ∀ s : State, s.Taken 0x1F → s.sup.station = .unconfigured →
    let c := s.store
    let own := s.bank.ownNumber
    let inUse := (ZoneId.list.filter fun z => (c.zones.get z).inUse).length
    let badSpan := fun z => (c.zones.get z).inUse = true ∧ (c.zones.get z).spanEnd ≤ (c.zones.get z).spanStart
    let badBand := fun i => ∃ b, c.bands.get i = some b ∧ b.last ≤ b.first
    let overlap := fun i j => ∃ a b, c.bands.get i = some a ∧ c.bands.get j = some b ∧ a.first < b.last ∧ b.first < a.last
    (c.bank.stationCount = 0 → exec .start s = .next (s.answered 0x1F .badConfig [1, 0]))
    ∧ (0 < c.bank.stationCount → c.bank.stationCount ≤ own.val →
        exec .start s = .next (s.answered 0x1F .badConfig [2, BitVec.ofNat 8 own.val]))
    ∧ (own.val < c.bank.stationCount → inUse < 3 →
        exec .start s = .next (s.answered 0x1F .badConfig [3, BitVec.ofNat 8 inUse]))
    ∧ (∀ z, own.val < c.bank.stationCount → 3 ≤ inUse → badSpan z → (∀ w, w.index < z.index → ¬ badSpan w) →
        exec .start s = .next (s.answered 0x1F .badConfig [4, BitVec.ofNat 8 z.index]))
    ∧ (∀ i, own.val < c.bank.stationCount → 3 ≤ inUse → (∀ z, ¬ badSpan z) → badBand i → (∀ j, j < i → ¬ badBand j) →
        exec .start s = .next (s.answered 0x1F .badConfig [5, BitVec.ofNat 8 i.val]))
    ∧ (∀ i j, own.val < c.bank.stationCount → 3 ≤ inUse → (∀ z, ¬ badSpan z) → (∀ k, ¬ badBand k) → j < i →
        overlap i j → (∀ k l, l < k → k < i → ¬ overlap k l) →
        exec .start s = .next (s.answered 0x1F .badConfig [6, BitVec.ofNat 8 i.val]))

/-- START with a store that passes every check makes each block its own start; under an asserted HALT line the station is
HALTED at the same instant, with HALT among the stop causes and HALT_ACTIVE raised (R8, R16, R23, R34, R68, R118, R161). The
model's choices, DEDUCED in log entry 19: under HALT the reply shows HALTED, and the peer table, the duplicate hold and the
curtain counts are not touched. -/
def Obligations.StartMakesEveryBlockStart : Prop :=
  ∀ s : State, s.Taken 0x1F → s.sup.station = .unconfigured →
    s.bank.ownNumber.val < s.store.bank.stationCount →
    3 ≤ (ZoneId.list.filter fun z => (s.store.zones.get z).inUse).length →
    (∀ z, (s.store.zones.get z).inUse = true → (s.store.zones.get z).spanStart < (s.store.zones.get z).spanEnd) →
    (∀ i b, s.store.bands.get i = some b → b.first < b.last) →
    (∀ i j a b, i ≠ j → s.store.bands.get i = some a → s.store.bands.get j = some b →
      ¬ (a.first < b.last ∧ b.first < a.last)) →
    let k := s.store.bank
    let t : State := { s with
      sup := { s.sup with station := .joining, joiningCount := 0 }
      timer := ⟨.listening, .present, 0, 0, none, 0, PerEight.all none, none, PerEight.all none, false, false⟩
      bank := ⟨s.bank.ownNumber,
        (k.powerLimit / 256 + k.powerLimit % 256 + k.headerCapacity + k.stationCount + k.mainsCode) % 256,
        s.bank.record, none, s.bank.peers, 0, false, s.bank.duplicateHold⟩
      scanner := { s.scanner with fpAcc := ⟨0, 0⟩, fcAcc := ⟨0, 0⟩ }
      gas := { s.gas with established := s.gas.established || decide (s.store.gas.curtainMin = 0) } }
    (s.sup.haltAsserted = false → exec .start s = .next (t.answered 0x1F .ok []))
    ∧ (s.sup.haltAsserted = true → s.loader.state = .atRest →
        exec .start s = .next (({ t with
          sup := { t.sup with station := .halted }
          loader := { s.loader with causes := { s.loader.causes with halt := true } }
          host := { t.host with reasons := t.host.reasons ||| 0x0001 } } : State).answered 0x1F .ok []))

/-! ### Segments (R142, R144, R146, R148) -/

/-- A segment record's 25 bytes, read and written: the presence byte, five targets, rate and guard band in three bytes, purge
flow, litres, boat target, speed, dwell band and maximum dwell in three bytes, minimum duration (R177). APPEND outside
UNCONFIGURED with fewer than 16 records queued adds the clamped record, with the next id, at the tail and echoes it; it is
refused otherwise and then changes nothing (R142). The echoed bytes of absent parts and the reading of a record without its
thermal bit are the model's (log entry 16). -/
def Obligations.AppendAddsTheClampedRecord : Prop :=
  (∀ b : List Byte,
    let part := fun (k : Nat) => (byteAt b 2).testBit k
    readSegment b 2 =
      { id := 0
        thermal := (if part 0 then some ⟨PerZone.ofFn fun z => if part (3 + z.index) then some (wordAt b (3 + 2 * z.index))
            else none, byteAt b 13 * 16 + byteAt b 14 / 16, byteAt b 14 % 16 * 256 + byteAt b 15⟩ else none)
        gas := (if part 1 then some ⟨byteAt b 16, wordAt b 17⟩ else none)
        boat := (if part 2 then some ⟨wordAt b 19, byteAt b 21, byteAt b 22 * 16 + byteAt b 23 / 16,
          byteAt b 23 % 16 * 256 + byteAt b 24⟩ else none)
        minDuration := wordAt b 25 })
  ∧ (∀ g : Segment,
    let bit := fun (present : Bool) (k : Nat) => if present then 2 ^ k else 0
    let targeted := fun z => g.thermal.bind fun t => t.targets.get z
    let target := fun z => match targeted z with
      | some v => [BitVec.ofNat 8 (v / 256), BitVec.ofNat 8 v]
      | none => [0xFF, 0xFF]
    g.bytes
      = [BitVec.ofNat 8 (bit g.thermal.isSome 0 + bit g.gas.isSome 1 + bit g.boat.isSome 2 + bit (targeted .z1).isSome 3
          + bit (targeted .z2).isSome 4 + bit (targeted .z3).isSome 5 + bit (targeted .z4).isSome 6
          + bit (targeted .z5).isSome 7)]
        ++ target .z1 ++ target .z2 ++ target .z3 ++ target .z4 ++ target .z5
        ++ (match g.thermal with
            | some h => [BitVec.ofNat 8 (h.rate / 16), BitVec.ofNat 8 (h.rate % 16 * 16 + h.guardBand / 256 % 16),
                BitVec.ofNat 8 (h.guardBand % 256)]
            | none => [0, 0, 0])
        ++ (match g.gas with
            | some p => [BitVec.ofNat 8 p.flow, BitVec.ofNat 8 (p.litres / 256), BitVec.ofNat 8 p.litres]
            | none => [0, 0, 0])
        ++ (match g.boat with
            | some v => [BitVec.ofNat 8 (v.target / 256), BitVec.ofNat 8 v.target, BitVec.ofNat 8 v.speed,
                BitVec.ofNat 8 (v.dwellBand / 16), BitVec.ofNat 8 (v.dwellBand % 16 * 16 + v.maxDwell / 256 % 16),
                BitVec.ofNat 8 (v.maxDwell % 256)]
            | none => [0xFF, 0xFF, 0, 0, 0, 0])
        ++ [BitVec.ofNat 8 (g.minDuration / 256), BitVec.ofNat 8 g.minDuration])
  ∧ (∀ s : State, s.Taken 0x20 → s.sup.station ≠ .unconfigured → s.exec.queue.length < 16 →
    let given := readSegment s.host.buffer 2
    let stored : Segment :=
      { given with
        thermal := given.thermal.map fun t =>
          ⟨PerZone.ofFn fun z => (t.targets.get z).map fun v => min v (s.store.zones.get z).maxTemp, min t.rate 1000,
            min t.guardBand 500⟩
        gas := given.gas.map fun p => ⟨min p.flow 200, max 1 (min p.litres 9999)⟩
        boat := given.boat.map fun b =>
          ⟨min b.target s.store.loader.stroke, clampNat 1 s.store.loader.maxSpeed b.speed, min b.dwellBand 500,
            min b.maxDwell 3600⟩ }
    exec .append s
      = .next (({ s with exec := { s.exec with
            queue := s.exec.queue ++ [{ stored with id := s.exec.nextId }]
            nextId := if s.exec.nextId < 65535 then s.exec.nextId + 1 else 1 } } : State).answered 0x20
          (if given = stored then .ok else .okClamped) (two s.exec.nextId ++ stored.bytes)))
  ∧ (∀ s : State, s.Taken 0x20 → s.sup.station = .unconfigured →
    exec .append s = .next (s.answered 0x20 .badState []))
  ∧ ∀ s : State, s.Taken 0x20 → s.sup.station ≠ .unconfigured → 16 ≤ s.exec.queue.length →
    exec .append s = .next (s.answered 0x20 .queueFull [])

/-- The amend fields' eight bytes, read and written: the presence bits, rate and guard band in three bytes, purge flow, boat
speed, dwell band (R177); an absent field is echoed as 0 by the model's choice (log entry 16). AMEND with a segment current
writes its present fields, clamped, over those of the shadow, leaves the others, and is OK_CLAMPED when a field was clamped;
without one it is refused and changes nothing (R146). At every sequence position the shadow becomes absent; its fields replace
those of the parts that the current segment has, in its record and in the blocks (R104, R111, R125, R147). `applyShadow` is
that first step; SequencePositionEndsTheSegment says what the row does after it. -/
def Obligations.AmendsReachTheShadowAndThenTheSegment : Prop :=
  (∀ b : List Byte,
    let given := fun (k v : Nat) => if (byteAt b 2).testBit k then some v else none
    readAmend b = ⟨given 0 (byteAt b 3 * 16 + byteAt b 4 / 16), given 1 (byteAt b 4 % 16 * 256 + byteAt b 5),
      given 2 (byteAt b 6), given 3 (byteAt b 7), given 4 (byteAt b 8 * 256 + byteAt b 9)⟩)
  ∧ (∀ a : AmendFields,
    let bit := fun (f : Option Nat) (k : Nat) => if f.isSome then 2 ^ k else 0
    a.bytes = [BitVec.ofNat 8 (bit a.rate 0 + bit a.guardBand 1 + bit a.purgeFlow 2 + bit a.boatSpeed 3 + bit a.dwellBand 4),
      BitVec.ofNat 8 (a.rate.getD 0 / 16), BitVec.ofNat 8 (a.rate.getD 0 % 16 * 16 + a.guardBand.getD 0 / 256 % 16),
      BitVec.ofNat 8 (a.guardBand.getD 0 % 256), BitVec.ofNat 8 (a.purgeFlow.getD 0), BitVec.ofNat 8 (a.boatSpeed.getD 0),
      BitVec.ofNat 8 (a.dwellBand.getD 0 / 256), BitVec.ofNat 8 (a.dwellBand.getD 0)])
  ∧ (∀ (s : State) (c : CurrentSegment), s.Taken 0x21 → s.exec.current = some c →
    let given := readAmend s.host.buffer
    let clamped : AmendFields :=
      { rate := given.rate.map fun v => min v 1000
        guardBand := given.guardBand.map fun v => min v 500
        purgeFlow := given.purgeFlow.map fun v => min v 200
        boatSpeed := given.boatSpeed.map (clampNat 1 s.store.loader.maxSpeed)
        dwellBand := given.dwellBand.map fun v => min v 500 }
    let shadow : AmendFields :=
      { rate := clamped.rate.or s.exec.shadow.rate
        guardBand := clamped.guardBand.or s.exec.shadow.guardBand
        purgeFlow := clamped.purgeFlow.or s.exec.shadow.purgeFlow
        boatSpeed := clamped.boatSpeed.or s.exec.shadow.boatSpeed
        dwellBand := clamped.dwellBand.or s.exec.shadow.dwellBand }
    exec .amend s
      = .next (({ s with exec := { s.exec with shadow := shadow } } : State).answered 0x21
          (if given = clamped then .ok else .okClamped) shadow.bytes))
  ∧ (∀ s : State, s.Taken 0x21 → s.exec.current = none → exec .amend s = .next (s.answered 0x21 .badState []))
  ∧ (∀ s : State, s.NextReaches (s.n - 20) →
    ∃ t, exec .sequencePosition s = .next t ∧ t.exec.shadow = ⟨none, none, none, none, none⟩)
  ∧ (∀ s : State, s.exec.current = none →
    s.applyShadow = { s with exec := { s.exec with shadow := ⟨none, none, none, none, none⟩ } })
  ∧ ∀ (s : State) (c : CurrentSegment), s.exec.current = some c →
    let a := s.exec.shadow
    let g := c.record
    s.applyShadow = { s with
      exec := { s.exec with
        shadow := ⟨none, none, none, none, none⟩
        current := some { c with record := { g with
          thermal := g.thermal.map fun h =>
            { h with rate := a.rate.getD h.rate, guardBand := a.guardBand.getD h.guardBand }
          gas := g.gas.map fun p => { p with flow := a.purgeFlow.getD p.flow }
          boat := g.boat.map fun b => { b with speed := a.boatSpeed.getD b.speed, dwellBand := a.dwellBand.getD b.dwellBand } } } }
      ramp := (if s.ramp.partCurrent = true ∧ g.thermal.isSome = true then { s.ramp with
          rate := (a.rate.map fun v => min v 1000).getD s.ramp.rate
          guardBand := (a.guardBand.map fun v => min v 500).getD s.ramp.guardBand }
        else s.ramp)
      gas := (if s.gas.part.current = true ∧ g.gas.isSome = true then { s.gas with
          part := { s.gas.part with flow := (a.purgeFlow.map fun v => min v 200).getD s.gas.part.flow } }
        else s.gas)
      loader := (if s.loader.part.current = true ∧ g.boat.isSome = true then { s.loader with
          part := { s.loader.part with
            speed := (a.boatSpeed.map (clampNat 1 s.store.loader.maxSpeed)).getD s.loader.part.speed
            dwellBand := (a.dwellBand.map fun v => min v 500).getD s.loader.part.dwellBand } }
        else s.loader) }

/-- URGENT outside UNCONFIGURED fills an empty slot with the result PENDING; a filled slot gives URGENT_BUSY and UNCONFIGURED
BAD_STATE, and nothing changes (R148). SET_LOW_MARK stores its mark clamped to 15 in every state (R144); its echo of the mark
at byte 6 is the model's reading (log entry 16). -/
def Obligations.UrgentFillsTheSlotAndTheMarkIsStored : Prop :=
  (∀ (s : State) (k : UrgentKind), s.Taken 0x22 → byteAt s.host.buffer 2 = k.code →
    (s.sup.station ≠ .unconfigured → s.exec.urgent = none →
      exec .urgent s = .next (({ s with exec := { s.exec with
        urgent := some k, lastKind := some k, lastResult := .pending } } : State).answered 0x22 .ok []))
    ∧ (s.sup.station ≠ .unconfigured → s.exec.urgent ≠ none →
      exec .urgent s = .next (s.answered 0x22 .urgentBusy []))
    ∧ (s.sup.station = .unconfigured → exec .urgent s = .next (s.answered 0x22 .badState [])))
  ∧ ∀ s : State, s.Taken 0x42 →
    let m := byteAt s.host.buffer 2
    exec .setLowMark s = .next (({ s with exec := { s.exec with lowMark := min m 15 } } : State).answered 0x42
      (if m ≤ 15 then .ok else .okClamped) (one (min m 15)))

/-! ### Reasons, trips, HALT, RESTART and hard reset -/

/-- CLEAR_REASONS removes exactly the selected reasons and leaves the others, and its reply shows the set after it (R174).
SET_MASK replaces the mask by the maskable part of its selection, leaves the reason set, and echoes the mask (R175). ATTN is
asserted exactly while an unmaskable reason or an unmasked maskable one is pending (R176). -/
def Obligations.ReasonsMaskAndAttn : Prop :=
  (∀ s : State, s.Taken 0x40 →
    exec .clearReasons s
      = .next { s with host := (({ s.host with
          reasons := s.host.reasons &&& ~~~(BitVec.ofNat 16 (wordAt s.host.buffer 2)) } : HostPort).answered
          0x40 .ok s.sup.station []) })
  ∧ ((∀ s : State, s.Taken 0x41 →
    let mask := BitVec.ofNat 16 (wordAt s.host.buffer 2) &&& 0xFFF0
    exec .setMask s
      = .next { s with host := (({ s.host with mask := mask } : HostPort).answered 0x41 .ok s.sup.station
          (two mask.toNat)) })
  ∧ ∀ s : State, s.attn = true ↔
      s.host.reasons &&& 0x000F ≠ 0 ∨ s.host.reasons &&& 0xFFF0 &&& ~~~s.host.mask ≠ 0)

/-- RESET_TRIP clears a latched trip exactly when the limit reading is VALID and at most the limit minus 100; it is refused
with BAD_STATE when it is not, and has no effect on a zone without a trip (R87). CLEAR_HALT takes a HALTED station with the
line released to HELD, with HOLD in the stop-cause set in place of HALT and no motion begun; the loader changes in its stop
causes alone unless it is HOMING, MOVING or WAIT_CURTAIN, which it never is with HALT among them (R132; State.CauseInv,
Loader.StopInv). Otherwise it is refused with BAD_STATE and changes nothing (R132, R164). -/
def Obligations.ResetTripAndClearHalt : Prop :=
  (∀ (s : State) (z : ZoneId), s.Taken 0x50 → byteAt s.host.buffer 2 = z.index →
    let v := s.zones.zones.get z
    let cool := (s.scanner.lt.get z).status = .valid
      ∧ (s.scanner.lt.get z).value + 100 ≤ (s.store.zones.get z).overLimit
    (v.tripped = true → cool →
      exec .resetTrip s = .next (({ s with zones := { s.zones with
        zones := s.zones.zones.set z { v with tripped := false } } } : State).answered 0x50 .ok []))
    ∧ (v.tripped = true → ¬ cool → exec .resetTrip s = .next (s.answered 0x50 .badState []))
    ∧ (v.tripped = false → exec .resetTrip s = .next (s.answered 0x50 .ok [])))
  ∧ ((∀ s : State, s.Taken 0x51 → s.sup.station = .halted → s.sup.haltAsserted = false →
    ∃ l : Loader,
      exec .clearHalt s = .next (({ s with sup := { s.sup with station := .held }, loader := l } : State).answered
        0x51 .ok [])
      ∧ l.causes = { s.loader.causes with hold := true, halt := false }
      ∧ l.position = s.loader.position ∧ l.part = s.loader.part
      ∧ (l.inMotion = true → s.loader.inMotion = true)
      ∧ (s.loader.state ≠ .homing → s.loader.state ≠ .moving → s.loader.state ≠ .waitCurtain →
          l = { s.loader with causes := { s.loader.causes with hold := true, halt := false } })
      ∧ (s.CauseInv → s.loader.StopInv →
          l = { s.loader with causes := { s.loader.causes with hold := true, halt := false } }))
  ∧ ∀ s : State, s.Taken 0x51 → (s.sup.station ≠ .halted ∨ s.sup.haltAsserted = true) →
    exec .clearHalt s = .next (s.answered 0x51 .badState []))

/-- RESTART returns every block but the scanner and the own number to its unconfigured values, empties the flow averages and
the reason set, and queues a LEAVE with the last START's signature where the station ran with two stations or more (R4, R22,
R23, R30, R43, R56, R73, R91, R113, R123, R141, R166). The levels of the HALT line and the home switch and the place within
the ten motion ticks stay (log entry 20), and a firing output that gates a half-cycle goes off at once (log entry 26). -/
def Obligations.RestartReturnsTheUnconfiguredValues : Prop :=
  ∀ s : State, s.Taken 0x5E →
    exec .restart s = .next
      { timer := ⟨.stopped, .present, 0, 0, none, 0, PerEight.all none, none, PerEight.all none, false, false⟩
        bank := ⟨s.bank.ownNumber, 0, ⟨.none, 0, ⟨.joining, 0, 0, 0, 0, 0⟩, 0⟩,
          (if s.sup.station ≠ .unconfigured ∧ 2 ≤ s.store.bank.stationCount then some s.bank.signature
            else s.bank.pendingLeave),
          PerEight.all ⟨.absent, false, 0, 0, ⟨.joining, 0, 0, 0, 0, 0⟩, false⟩, 0, false, 0⟩
        share := ⟨0, 0, 0, 0, 0, 0, false, false, false⟩
        scanner := { s.scanner with fpAcc := ⟨0, 0⟩, fcAcc := ⟨0, 0⟩, lastFp := 0, lastFc := 0 }
        zones := ⟨PerZone.all ⟨0, 0, 0, .firm, 0, 0, false, 0, false, 0, false, false, false, 0, false⟩, 0, 0⟩
        ramp := ⟨PerZone.all ⟨none, none, none, .steady⟩, false, 0, 0, 1, false, ⟨false, false, false, false⟩, false, 0⟩
        gas := ⟨false, 0, 0, 0, ⟨0, 0, false⟩, ⟨0, 0, false⟩, 0, false, false, false, 0, 0, ⟨false, 0, 0, 0, 0, false⟩, false⟩
        loader := ⟨none, 0, .outward, .atRest, ⟨false, false, false, false, false⟩, false, none, 0, 0, 1,
          ⟨false, 0, 1, 0, 0, false⟩, s.loader.tickPhase, false, s.loader.homeActive⟩
        exec := ⟨[], none, ⟨none, none, none, none, none⟩, none, none, .none, 1, 0, []⟩
        sup := ⟨.unconfigured, 0, ⟨⟨0, 0, 0, 0, 0⟩, PerZone.all ⟨false, 1, 0, 0, 0, 0, 0, 0, 0⟩, ⟨0, 0, 0⟩,
          ⟨1000, 1, 1, 1, 1⟩, PerEight.all none⟩, s.sup.haltAsserted⟩
        host := ({ s.host with reasons := 0, mask := 0xFFF0 } : HostPort).answered 0x5E .ok .unconfigured []
        freeIndex := s.freeIndex
        pending := s.pending }

/-- HARD_RESET reads the straps and leaves every block at the values the chapters give, the scanner at the slot of CJ, and the
reply slot as a NOP would; a transaction under way is DISCARDED, and the line levels stay (R4, R16, R22, R30, R43, R54, R56,
R73, R91, R123, R141, R166; log entry 20). A firing output that gates a half-cycle goes off at once (log entry 26). -/
def Obligations.HardResetReturnsEveryBlock : Prop :=
  ∀ (s : State) (straps : StationNo),
    ∃ t, exec (.hardReset straps) s = .next t
      ∧ t.timer = ⟨.stopped, .present, 0, 0, none, 0, PerEight.all none, none, PerEight.all none, false, false⟩
      ∧ t.bank = ⟨straps, 0, ⟨.none, 0, ⟨.joining, 0, 0, 0, 0, 0⟩, 0⟩, none,
          PerEight.all ⟨.absent, false, 0, 0, ⟨.joining, 0, 0, 0, 0, 0⟩, false⟩, 0, false, 0⟩
      ∧ t.share = ⟨0, 0, 0, 0, 0, 0, false, false, false⟩
      ∧ t.scanner = ⟨.cj, .settling, none, PerZone.all ⟨0, .stale, 15⟩, PerZone.all ⟨0, .stale, 15⟩,
          ⟨0, .stale, 15⟩, ⟨0, .stale, 15⟩, ⟨0, .stale, 15⟩, ⟨0, .stale, 15⟩, .untested, .untested, ⟨0, 0⟩, ⟨0, 0⟩, 0, 0⟩
      ∧ t.zones = ⟨PerZone.all ⟨0, 0, 0, .firm, 0, 0, false, 0, false, 0, false, false, false, 0, false⟩, 0, 0⟩
      ∧ t.ramp
        = ⟨PerZone.all ⟨none, none, none, .steady⟩, false, 0, 0, 1, false, ⟨false, false, false, false⟩, false, 0⟩
      ∧ t.gas
        = ⟨false, 0, 0, 0, ⟨0, 0, false⟩, ⟨0, 0, false⟩, 0, false, false, false, 0, 0, ⟨false, 0, 0, 0, 0, false⟩, false⟩
      ∧ t.loader = ⟨none, 0, .outward, .atRest, ⟨false, false, false, false, false⟩, false, none, 0, 0, 1,
          ⟨false, 0, 1, 0, 0, false⟩, 0, false, s.loader.homeActive⟩
      ∧ t.exec = ⟨[], none, ⟨none, none, none, none, none⟩, none, none, .none, 1, 0, []⟩
      ∧ t.sup = ⟨.unconfigured, 0, ⟨⟨0, 0, 0, 0, 0⟩, PerZone.all ⟨false, 1, 0, 0, 0, 0, 0, 0, 0⟩, ⟨0, 0, 0⟩,
          ⟨1000, 1, 1, 1, 1⟩, PerEight.all none⟩, s.sup.haltAsserted⟩
      ∧ t.host.reasons = 0 ∧ t.host.mask = 0xFFF0 ∧ t.host.reply = ⟨.ok, 0x01, .unconfigured, 0, []⟩
      ∧ (t.host.transaction = .idle ↔ s.host.transaction = .idle)
      ∧ (s.host.transaction ≠ .idle → t.host.transaction = .discarding)

/-! ### Half-cycles, the mains and the window (chapter 1) -/

/-- A boundary that neither ends the window nor reaches a named position counts one half-cycle and decides which zones drive
it; it may come as a substitute boundary (R6) or as an edge with e between h/2 and 3h/2 (R1, R2, R82). A substitute boundary
is counted only in MAINS_LOST (R6). However it comes, a boundary that reaches a position, or ends the window, is that
position's row (R1, R2, R6, R7). The rows of the sequence, share and control positions are those positions' work and the
half-cycle that begins. While LISTENING a boundary is counted and raises no position, until listening ends and the first
window starts (R8, R9). -/
def Obligations.BoundariesCountFireAndRaiseTheirPosition : Prop :=
  (∀ s : State, s.timer.timer = .phased → s.timer.windowCount + 1 < s.endCount →
    (∀ p ∈ [4 + 10 * s.bank.ownNumber.val, s.n - 20, s.n - 16, s.n - 10], s.timer.windowCount + 1 ≠ p) →
    (s.timer.mains = .lost → exec .substituteBoundary s = .next s.nextHalfCycle)
    ∧ ∀ e, s.timer.mains = .present → s.timer.boundarySeen = true → s.threeH ≤ 6 * e → 6 * e < 3 * s.threeH →
        exec (.zeroCrossEdge e) s = .next s.nextHalfCycle)
  ∧ (∀ s : State, (s.timer.timer = .stopped ∨ s.timer.mains = .present) → exec .substituteBoundary s = .next s)
  ∧ (∀ (s : State) (row : Instr) (p : Nat),
    (row, p) ∈ [(Instr.ownSlot, 4 + 10 * s.bank.ownNumber.val), (.sequencePosition, s.n - 20), (.sharePosition, s.n - 16),
      (.controlPosition, s.n - 10)] → s.NextReaches p → s.NextBoundaryIs row)
  ∧ (∀ s : State, s.EndsWindow → s.NextBoundaryIs .windowStart)
  ∧ (∀ s : State,
    (s.NextReaches (s.n - 20) →
      exec .sequencePosition s = .next { s.counted.sequenceWork with zones := s.zonesFired })
    ∧ (s.NextReaches (s.n - 16) → exec .sharePosition s = .next { s.counted.shareWork with zones := s.zonesFired })
    ∧ (s.NextReaches (s.n - 10) →
      let w := s.counted.controlWork
      exec .controlPosition s = .next { w with zones := { w.zones with zones := PerZone.ofFn fun z =>
        let v := w.zones.zones.get z
        { v with gate := s.firesNext z, fired := if s.firesNext z then v.fired + 1 else v.fired } } }))
  ∧ ∀ s : State, s.timer.timer = .listening →
    let c := s.timer.windowCount + 1
    ((c ≠ s.n ∨ s.timer.firstStart ≠ none) → (∀ r, s.timer.firstStart ≠ some ⟨c, r⟩) →
      (s.timer.mains = .lost → exec .substituteBoundary s = .next s.counted)
      ∧ ∀ e, (s.EdgeCountsOne e → exec (.zeroCrossEdge e) s = .next s.counted)
        ∧ (s.timer.mains = .lost → s.threeH ≤ 6 * e →
            exec (.zeroCrossEdge e) s = .next { s with timer := { s.timer.counted with mains := .present } }))
    ∧ (c = s.n → s.timer.firstStart = none → s.NextBoundaryIs .listeningEnd)
    ∧ (∀ r, s.timer.firstStart = some ⟨c, r⟩ → s.NextBoundaryIs .firstWindowStart)

/-- ZERO_CROSS_EDGE: ignored in STOPPED and as noise below h/2; the first edge after START counts one boundary; any other
counts k, the nearest integer to e/h with a half rounded up (R1); in MAINS_LOST it restores the mains and counts at most one
(R7). `s.boundary` is one boundary, and `State.boundaries k s` is k of them one after another;
BoundariesCountFireAndRaiseTheirPosition says what one does. The model's choices, in log entry 11: e is an operand in periods
of the crystal, and `boundarySeen` stands for R1's first edge. -/
def Obligations.ZeroCrossEdgesCountBoundaries : Prop :=
  ∀ (s : State) (e : Nat),
    let restored : State := { s with timer := { s.timer with mains := .present } }
    (s.timer.timer = .stopped → exec (.zeroCrossEdge e) s = .next s)
    ∧ (s.timer.timer ≠ .stopped → s.timer.mains = .present →
        (s.timer.boundarySeen = false → exec (.zeroCrossEdge e) s = .next s.boundary)
        ∧ (s.timer.boundarySeen = true → 6 * e < s.threeH → exec (.zeroCrossEdge e) s = .next s)
        ∧ ∀ k, s.timer.boundarySeen = true → 1 ≤ k → (2 * k - 1) * s.threeH ≤ 6 * e → 6 * e < (2 * k + 1) * s.threeH →
            exec (.zeroCrossEdge e) s = .next (State.boundaries k s))
    ∧ (s.timer.timer ≠ .stopped → s.timer.mains = .lost →
        (6 * e < s.threeH → exec (.zeroCrossEdge e) s = .next restored)
        ∧ (s.threeH ≤ 6 * e → exec (.zeroCrossEdge e) s = .next restored.boundary))

/-- MAINS_LOST: entry raises the reason, counts the three boundaries that fell due, each raising the position it reaches, and
leaves every zone's firing stopped (R5). Where they reach nothing, the count is all they change, in LISTENING too; where one
reaches a position, ends the window or ends listening, the blocks are as that position's row leaves them, but for the firing.
It is no event in STOPPED or when the mains is lost already. That the three boundaries gate no half-cycle is the model's
reading (log entry 13). -/
def Obligations.MainsLostCountsThreeAndStopsFiring : Prop :=
  (∀ s : State, s.timer.timer ≠ .stopped → s.timer.mains = .present →
    let w := s.timer.windowCount
    let entered : State := { s with
      timer := { s.timer with mains := .lost }
      host := { s.host with reasons := s.host.reasons ||| 0x0004 } }
    let at_ := fun count : Nat => ({ entered with timer := { entered.timer with windowCount := count } } : State)
    let left := fun (u : State) (count : Nat) (fired : ZoneId → Nat) => ({ u with
      timer := { u.timer with windowCount := count, boundarySeen := true }
      zones := { u.zones with zones := PerZone.ofFn fun z =>
        { u.zones.zones.get z with fired := fired z, firingStopped := true, gate := false } } } : State)
    let fired := fun z => (s.zones.zones.get z).fired
    let rows := [(Instr.ownSlot, 4 + 10 * s.bank.ownNumber.val), (.sequencePosition, s.n - 20), (.sharePosition, s.n - 16),
      (.controlPosition, s.n - 10)]
    ∃ t, exec .mainsLost s = .next t ∧ t.timer.mains = .lost ∧ t.host.reasons &&& 0x0004 = 0x0004
      ∧ (∀ z, (t.zones.zones.get z).firingStopped = true ∧ (t.zones.zones.get z).gate = false)
      ∧ (s.timer.timer = .phased → w + 3 < s.endCount → (∀ r ∈ rows, w + 3 < r.2 ∨ r.2 ≤ w) →
          t = left entered (w + 3) fired)
      ∧ (s.timer.timer = .phased → ∀ row p, (row, p) ∈ rows → w < p → p ≤ w + 3 → p < s.endCount →
          ∃ u, exec row (at_ (p - 1)) = .next u
            ∧ (w + 3 < u.endCount → t = left u (w + 3) fired)
            ∧ (p < u.endCount → u.endCount ≤ w + 3 →
                ∃ v, exec .windowStart { u with timer := { u.timer with windowCount := u.endCount - 1 } } = .next v
                  ∧ t = left v (w + 3 - u.endCount) fun _ => 0))
      ∧ (s.timer.timer = .phased → w < s.endCount → s.endCount ≤ w + 3 → (∀ r ∈ rows, r.2 ≤ w ∨ s.endCount ≤ r.2) →
          ∃ u, exec .windowStart (at_ (s.endCount - 1)) = .next u ∧ t = left u (w + 3 - s.endCount) fun _ => 0)
      ∧ (s.timer.timer = .listening →
          (∀ k, 1 ≤ k → k ≤ 3 → (w + k ≠ s.n ∨ s.timer.firstStart ≠ none) ∧ ∀ r, s.timer.firstStart ≠ some ⟨w + k, r⟩) →
          t = left entered (w + 3) fired)
      ∧ (s.timer.timer = .listening → ∀ c r, s.timer.firstStart = some ⟨c, r⟩ → w < c → c ≤ w + 3 →
          ∃ u, exec .firstWindowStart (at_ (c - 1)) = .next u ∧ t = left u (w + 3 - c) fun _ => 0)
      ∧ (s.timer.timer = .listening → s.timer.firstStart = none → w < s.n → s.n ≤ w + 3 →
          ∃ u, exec .listeningEnd (at_ (s.n - 1)) = .next u
            ∧ (u.timer.timer = .phased → t = left u (w + 3 - s.n) fun _ => 0)
            ∧ (∀ f, u.timer.timer = .listening → u.timer.firstStart = some f → w + 3 < f.count →
                t = left u (w + 3) fired)))
  ∧ ∀ s : State, (s.timer.timer = .stopped ∨ s.timer.mains = .lost) → exec .mainsLost s = .next s

/-- LISTENING_END: with no record the station is PHASED at once with round 0; with the lowest-numbered record, of count P and
round R, and E = P - (4 + 10 s) + N, the first window start is at E with round R + 1 when E is N or more and at E + N with
round R + 2 when it is less, modulo 256 (R9). -/
def Obligations.ListeningEndFixesTheFirstWindow : Prop :=
  ∀ s : State, s.timer.timer = .listening → s.timer.windowCount + 1 = s.n → s.timer.firstStart = none →
    ((∀ i, s.timer.listening.get i = none) →
      ∃ t, exec .listeningEnd s = .next t ∧ t.timer.timer = .phased ∧ t.timer.round = 0 ∧ t.timer.windowCount = 0
        ∧ t.timer.lastLength = s.timer.lastLength)
    ∧ ∀ (i : StationNo) (r : ListenRecord), s.timer.listening.get i = some r →
      (∀ j, j < i → s.timer.listening.get j = none) →
      let e := r.count + s.n - (4 + 10 * i.val)
      (e < s.n → exec .listeningEnd s
        = .next { s with timer := { s.timer.counted with firstStart := some ⟨e + s.n, (r.round + 2) % 256⟩ } })
      ∧ (s.n < e → exec .listeningEnd s
        = .next { s with timer := { s.timer.counted with firstStart := some ⟨e, (r.round + 1) % 256⟩ } })
      ∧ (e = s.n → ∃ t, exec .listeningEnd s = .next t ∧ t.timer.timer = .phased
          ∧ t.timer.round = (r.round + 1) % 256 ∧ t.timer.windowCount = 0)

/-- FIRST_WINDOW_START: at the fixed count the station is PHASED with the fixed round number, the count 0, the listening
records gone and the last window length as it was; JOINING's rounds are not counted at it, and duties, flows and flow averages
are handed over (R9, R67, R81, R113, R162). The own record returns to NONE (R22), the peer table ages as at any window start
(R29) and the duplicate hold decreases (R32); a current segment's window is counted (R152, R153), under the station state
before or after a loader fault at the same instant (log entry 3). -/
def Obligations.FirstWindowStartBeginsThePhasedRun : Prop :=
  ∀ (s : State) (round : Nat), s.timer.timer = .listening →
    s.timer.firstStart = some ⟨s.timer.windowCount + 1, round⟩ →
    ∃ t, exec .firstWindowStart s = .next t
      ∧ t.timer = ⟨.phased, s.timer.mains, 0, round, none, s.timer.lastLength, PerEight.all none, none,
          PerEight.all none, false, true⟩
      ∧ t.sup.joiningCount = s.sup.joiningCount ∧ t.share = s.share ∧ t.pending = s.pending
      ∧ t.exec = { s.exec with current := t.exec.current } ∧ t.host = { s.host with reasons := t.host.reasons }
      ∧ (∃ st, (st = s.sup.station ∨ st = t.sup.station) ∧ t.exec.current = s.exec.current.map fun c =>
          c.afterWindow st (s.ramp.partCurrent && c.record.thermal.isSome && t.ramp.causes.curtailed))
      ∧ (∃ peers, t.bank = { s.bank with
          record := { s.bank.record with status := .none }
          peers := peers
          duplicateHold := s.bank.duplicateHold - 1 }
        ∧ ∀ i, let e := s.bank.peers.get i
            peers.get i = { e with
              heard := false
              age := (if e.presence = .absent then e.age else min 255 (e.age + 1))
              presence := (if e.presence = .fresh ∧ e.age = 2 then .stale else e.presence) })
      ∧ ((∃ i, (s.bank.peers.get i).presence = .fresh ∧ (s.bank.peers.get i).age = 2) →
          t.host.reasons &&& 0x2000 = 0x2000)
      ∧ t.scanner = { s.scanner with
          lastFp := (if s.scanner.fpAcc.count = 0 then s.scanner.fp.value else s.scanner.fpAcc.sum / s.scanner.fpAcc.count)
          lastFc := (if s.scanner.fcAcc.count = 0 then s.scanner.fc.value else s.scanner.fcAcc.sum / s.scanner.fcAcc.count)
          fpAcc := ⟨0, 0⟩
          fcAcc := ⟨0, 0⟩ }
      ∧ t.gas.running = s.gas.next ∧ t.gas.next = s.gas.next ∧ t.gas.takenInWindow = false
      ∧ ∀ z, (t.zones.zones.get z).dutyRunning = (s.zones.zones.get z).dutyNext
          ∧ (t.zones.zones.get z).curtailed = (s.zones.zones.get z).curtailedNext

/-- WINDOW_START: the round number advances, or is set to the candidate's plus one; count, candidate and heard set are cleared
and the window's length kept (R2, R3, R12); a JOINING station's rounds are counted (R162); the own record returns to NONE
(R22), the peer table ages (R29) and the duplicate hold decreases (R32). The ended window is counted toward the current
segment, as are windows held by CURTAILED (R152, R153), under the station state before or after a loader fault at the same
instant (log entry 3). `s.atWindowEnd` is the state after the positions that a shortened window cuts off, each at its work in
turn and a cut-off slot not raised (R14, log entry 15); in any other window it is the state counted. -/
def Obligations.WindowStartBeginsTheNextRound : Prop :=
  (∀ s : State, s.n - 10 < s.endCount → s.atWindowEnd = s.counted)
  ∧ ∀ s : State, s.EndsWindow →
    let p := s.atWindowEnd
    ∃ t, exec .windowStart s = .next t
      ∧ t.timer = { s.timer with
          windowCount := 0
          lastLength := s.endCount
          round := (match s.timer.candidate with
            | some c => (c.round + 1) % 256
            | none => (s.timer.round + 1) % 256)
          candidate := none
          judged := PerEight.all none
          ownHeard := false
          boundarySeen := true }
      ∧ t.sup.store = s.sup.store ∧ t.sup.haltAsserted = s.sup.haltAsserted
      ∧ t.sup.joiningCount = (if p.sup.station = .joining then min 2 (s.sup.joiningCount + 1) else s.sup.joiningCount)
      ∧ t.share = p.share ∧ t.pending = s.pending
      ∧ t.exec = { p.exec with current := t.exec.current } ∧ t.host = { p.host with reasons := t.host.reasons }
      ∧ (∃ st, (st = p.sup.station ∨ st = t.sup.station) ∧ t.exec.current = p.exec.current.map fun c =>
          c.afterWindow st (p.ramp.partCurrent && c.record.thermal.isSome && t.ramp.causes.curtailed))
      ∧ (∃ peers, t.bank = { p.bank with
          record := { p.bank.record with status := .none }
          peers := peers
          duplicateHold := s.bank.duplicateHold - 1 }
        ∧ ∀ i, let e := s.bank.peers.get i
            peers.get i = { e with
              heard := false
              age := (if e.presence = .absent then e.age else min 255 (e.age + 1))
              presence := (if e.presence = .fresh ∧ e.age = 2 then .stale else e.presence) })
      ∧ ((∃ i, (s.bank.peers.get i).presence = .fresh ∧ (s.bank.peers.get i).age = 2) →
          t.host.reasons &&& 0x2000 = 0x2000)

/-- WINDOW_START hands over duties and flags, with the first half-cycle fired only by a zone whose duty is N (R81, R82), the
commanded flows (R113) and the flow averages (R67), and counts the ended window's volume toward a gas part that its
flows were commanded for, not that of the window in which the part was taken (R115, R116; log entry 28 for the field that
tells that window). Duties and flows that a shortened window's cut-off control position fixes are
handed over with it (R14). -/
def Obligations.WindowStartHandsOverDutiesAndFlows : Prop :=
  ∀ s : State, s.EndsWindow →
    let p := s.atWindowEnd
    ∃ t, exec .windowStart s = .next t
      ∧ t.zones = { p.zones with zones := PerZone.ofFn fun z =>
          let v := p.zones.zones.get z
          let fires := decide (s.n ≤ v.dutyNext ∧ p.sup.station ≠ .unconfigured ∧ (s.store.zones.get z).inUse = true
            ∧ v.tripped = false)
          { v with
            dutyRunning := v.dutyNext
            curtailed := v.curtailedNext
            firingStopped := false
            gate := fires
            fired := (if fires then 1 else 0) } }
      ∧ t.gas.running = p.gas.next ∧ t.gas.next = p.gas.next ∧ t.gas.takenInWindow = false
      ∧ t.scanner = { s.scanner with
          lastFp := (if s.scanner.fpAcc.count = 0 then s.scanner.fp.value else s.scanner.fpAcc.sum / s.scanner.fpAcc.count)
          lastFc := (if s.scanner.fcAcc.count = 0 then s.scanner.fc.value else s.scanner.fcAcc.sum / s.scanner.fcAcc.count)
          fpAcc := ⟨0, 0⟩
          fcAcc := ⟨0, 0⟩ }
      ∧ (let g := p.gas.part
        let volume :=
          if g.current = true ∧ g.complete = false ∧ p.gas.running.partFlow = true ∧ p.gas.takenInWindow = false
              ∧ p.sup.station ≠ .halted then
            g.volume + t.scanner.lastFp * s.endCount
          else g.volume
        t.gas.part = { g with
          volume := volume
          complete := g.complete || (g.current && decide (g.target ≤ volume)) })

/-- WINDOW_START judges the flow fault on the purge commanded and delivered over the ended window (R117), and the curtain on
the delivered average: three good windows establish it and two bad ones lose it, whichever order the open window-start work
takes (R118, R119; log entry 3). A loss enters CURTAIN into the stop-cause set of a loader in motion and raises CURTAIN_LOST
exactly then; an establishment takes CURTAIN out, and a waiting loader begins its motion (R119, R126, R135). The loader is as
what the gas unit hands it and its dwell check leave it, in one order or the other, the lags read before or after the ramp
step (R106, R136); a stall takes a RUNNING or IDLE station to HELD (R137, R165). Where no zone lags by more than half the
dwell band under either reading, the check does not stall, and the loader's state agrees with its stop causes (Loader.StopInv),
the two orders differ at most for a DWELL that is released as the curtain is lost; where the dwell check has nothing to judge,
the curtain alone acts. A loader in motion has its CURTAIN_LOST whatever its dwell band,
but for one that the same check stalls, and for a lagging push at speed 0. The four operations named here are spelled out in
StopCausesAndMotionStartsActOnTheLoader. -/
def Obligations.WindowStartJudgesTheFlows : Prop :=
  ∀ s : State, s.EndsWindow →
    let p := s.atWindowEnd
    ∃ t, exec .windowStart s = .next t
      ∧ (let low := 4 ≤ p.gas.running.purge ∧ 2 * t.scanner.lastFp < p.gas.running.purge
        (low → t.gas.faultCount = min 10 (p.gas.faultCount + 1)
          ∧ t.gas.faultReported = (p.gas.faultReported || decide (p.gas.faultCount = 9))
          ∧ (p.gas.faultCount = 9 → p.gas.faultReported = false → t.host.reasons &&& 0x0040 = 0x0040))
        ∧ (¬ low → t.gas.faultCount = 0 ∧ t.gas.faultReported = false))
      ∧ (let good := s.store.gas.curtainMin ≤ t.scanner.lastFc
        (p.gas.established = false → good → p.gas.good + 1 < 3 →
          t.gas.established = false ∧ t.gas.good = p.gas.good + 1)
        ∧ (p.gas.established = false → good → 3 ≤ p.gas.good + 1 →
          t.gas.established = true ∧ t.gas.lost = false ∧ t.gas.good = 0 ∧ t.gas.bad = 0)
        ∧ (p.gas.established = false → ¬ good → t.gas.established = false ∧ t.gas.good = 0)
        ∧ (p.gas.established = true → good → t.gas.established = true ∧ t.gas.bad = 0)
        ∧ (p.gas.established = true → ¬ good → p.gas.bad + 1 < 2 →
          t.gas.established = true ∧ t.gas.bad = p.gas.bad + 1)
        ∧ (p.gas.established = true → ¬ good → 2 ≤ p.gas.bad + 1 →
          t.gas.established = false ∧ t.gas.lost = true ∧ t.gas.good = 0 ∧ t.gas.bad = 0))
      ∧ (p.loader.NoDwell →
        let l := p.loader
        let lost := p.gas.established = true ∧ t.gas.established = false
        let made := p.gas.established = false ∧ t.gas.established = true
        (lost → t.loader = if l.inMotion then l.addCause false .curtain else l)
        ∧ t.host.reasons &&& 0x0080 = (if lost ∧ l.inMotion = true then 0x0080 else p.host.reasons &&& 0x0080)
        ∧ (made → l.state ≠ .waitCurtain → t.loader = l.removeCause true .curtain)
        ∧ (made → l.state = .waitCurtain →
            t.loader = ({ l with causes := { l.causes with curtain := false } } : Loader).beginMotion)
        ∧ (¬ lost → ¬ made → t.loader = l))
      ∧ let l := p.loader
        let band := l.part.dwellBand
        let lost := p.gas.established = true ∧ t.gas.established = false
        let made := p.gas.established = false ∧ t.gas.established = true
        let works := p.sup.station = .running ∨ p.sup.station = .idle
        let told := fun moving : Bool =>
          t.host.reasons &&& 0x0080 = if moving then 0x0080 else p.host.reasons &&& 0x0080
        let total := if l.causes.dwell then min 65535 (l.dwellTotal + 1) else l.dwellTotal
        let stalls := l.causes.dwell = true ∧ 0 < l.part.maxDwell ∧ l.part.maxDwell < total
        let counted : Loader := { l with dwellTotal := total }
        let released : Loader := { counted with causes := { l.causes with dwell := false }, state := .atRest }
        let close := fun bound => band = 0 ∨ (¬ p.Lags p.ramp bound ∧ ¬ p.Lags t.ramp bound)
        (∃ (r : Ramp) (recovered lagging : Bool) (x : Loader × Bool), (r = p.ramp ∨ r = t.ramp)
          ∧ (recovered = true ↔ ¬ p.Lags r (band / 2)) ∧ (lagging = true ↔ p.Lags r band)
          ∧ let checked : Loader :=
              { x.1 with causes := { x.1.causes with hold := x.1.causes.hold || (x.2 && decide works) } }
            t.sup.station = (if x.2 = true ∧ works then .held else p.sup.station)
            ∧ t.host.reasons &&& 0x0100 = (if x.2 then 0x0100 else p.host.reasons &&& 0x0100)
            ∧ (lost →
                (x = l.curtainLost.dwellCheck false recovered lagging ∧ t.loader = checked ∧ told l.inMotion)
                ∨ (x = l.dwellCheck true recovered lagging ∧ t.loader = checked.curtainLost ∧ told checked.inMotion))
            ∧ (made →
                (x = l.curtainEstablished.dwellCheck true recovered lagging ∧ t.loader = checked)
                ∨ (x = l.dwellCheck false recovered lagging ∧ t.loader = checked.curtainEstablished))
            ∧ (¬ lost → ¬ made → x = l.dwellCheck p.gas.established recovered lagging ∧ t.loader = checked)
            ∧ (¬ lost → told false))
        ∧ (lost → l.inMotion = true → ¬ stalls →
            (0 < l.speed ∨ l.state ≠ .moving ∨ l.direction ≠ .inward ∨ close band) → told true)
        ∧ (l.StopInv → ¬ stalls → close (band / 2) →
          (lost → l.state ≠ .dwell →
              t.loader = (if l.inMotion then counted.addCause false .curtain else counted) ∧ told l.inMotion)
          ∧ (lost → l.state = .dwell →
              (t.loader = released.motionStart false ∧ told false)
              ∨ (t.loader = (released.motionStart true).curtainLost ∧ told (released.motionStart true).inMotion))
          ∧ (made → l.state ≠ .dwell → t.loader = counted.curtainEstablished)
          ∧ (made → l.state = .dwell →
              t.loader = ({ released with causes := { l.causes with dwell := false, curtain := false } } : Loader).motionStart
                true))

/-- WINDOW_START makes the loader's dwell check (R136), here while the curtain's state does not change;
WindowStartJudgesTheFlows says what it leaves beside a loss or an establishment. DWELL among the stop causes
counts a window, and a total above the maximum dwell stalls the loader with LOADER_FAULT, a RUNNING or IDLE station going to
HELD (R137, R165). A loader in DWELL is released when every zone considered lags by no more than half the band, or the band is
0, and makes a motion start; it stays while one lags by more; a push that a zone lags by more than the band is stopped for
DWELL, and anything else is left alone. The lags are read before or after the ramp step of the same instant (R106, log entry
3): a clause speaks where both readings agree. That a stall ends target braking and keeps the approach record is the model's
choice (log entries 23 and 29). Loader.motionStart and addCause are spelled out in StopCausesAndMotionStartsActOnTheLoader. -/
def Obligations.DwellChecksStopAndReleaseThePush : Prop :=
  ∀ s : State, s.EndsWindow →
    let p := s.atWindowEnd
    let l := p.loader
    let e := p.gas.established
    let band := l.part.dwellBand
    let total := if l.causes.dwell then min 65535 (l.dwellTotal + 1) else l.dwellTotal
    let stalls := l.causes.dwell = true ∧ 0 < l.part.maxDwell ∧ l.part.maxDwell < total
    let counted : Loader := { l with dwellTotal := total }
    ∃ t, exec .windowStart s = .next t
      ∧ (t.gas.established = e →
        let lags := fun bound => p.Lags p.ramp bound ∧ p.Lags t.ramp bound
        let close := fun bound => ¬ p.Lags p.ramp bound ∧ ¬ p.Lags t.ramp bound
        let works := p.sup.station = .running ∨ p.sup.station = .idle
        (stalls → t.loader = { counted with
            speed := 0
            state := .stalled
            braking := false
            causes := { l.causes with dwell := false, hold := l.causes.hold || decide works } }
          ∧ t.host.reasons &&& 0x0100 = 0x0100
          ∧ t.sup.station = (if works then .held else p.sup.station))
        ∧ (¬ stalls → t.sup.station = p.sup.station
          ∧ t.host.reasons &&& 0x0100 = p.host.reasons &&& 0x0100
          ∧ (l.state = .dwell → l.causes.dwell = true → (band = 0 ∨ close (band / 2)) →
              t.loader = ({ counted with causes := { l.causes with dwell := false }, state := .atRest } : Loader).motionStart e)
          ∧ (l.state = .dwell → 0 < band → lags (band / 2) → t.loader = counted)
          ∧ (l.state = .moving → l.direction = .inward → l.causes.dwell = false → 0 < band → lags band →
              t.loader = l.addCause e .dwell)
          ∧ (l.state ≠ .dwell → (l.state ≠ .moving ∨ l.direction ≠ .inward ∨ band = 0 ∨ close band) → t.loader = counted)))

/-- The ramp step of a window start with a part current: a held step moves nothing, and an unheld one moves each targeted zone
by the pattern's increment toward its target, never past it (R95, R96, R98, R99); an untargeted zone's setpoint stays at either
(R91, R98); the zone states follow (R100), and the
pattern advances by one at an unheld step. The largest deviation takes in every targeted zone's lag before the step (R101),
and an unheld step that leaves every targeted zone STEADY, within the guard band if there is one, completes the part (R102,
R103). Without a part only the zone states become STEADY (R95). The step reads the station state before or after a loader
fault of the same instant (log entry 3). Law L8: at any window start, in whatever order its open work is taken, a setpoint
moves by at most the rate divided by 60, rounded up, unless the rate is 0; and no setpoint appears or disappears (R105). -/
def Obligations.RampStepsMoveOrHold : Prop :=
  (∀ s : State, s.EndsWindow → s.atWindowEnd.ramp.partCurrent = true →
    let b := s.atWindowEnd
    let zone := fun z => b.ramp.zones.get z
    let reading := fun z => s.scanner.ct.get z
    let curtailed := ∃ z, (zone z).target ≠ none ∧ (zone z).state = .rising ∧ (b.zones.zones.get z).curtailedNext = true
    let guard := b.ramp.guardBand ≠ 0 ∧ ∃ z a p, (zone z).target = some a ∧ (zone z).setpoint = some p ∧ p ≠ a
      ∧ (reading z).status = .valid ∧ (p + b.ramp.guardBand < (reading z).value ∨ (reading z).value + b.ramp.guardBand < p)
    let unreadable := ∃ z, (zone z).target ≠ none ∧ (zone z).setpoint ≠ (zone z).target
      ∧ ((b.zones.zones.get z).tripped = true ∨ (b.zones.zones.get z).openHold = true ∨ (reading z).status ≠ .valid)
    let lag := fun z d => (zone z).target ≠ none ∧ (reading z).status = .valid
      ∧ ∃ p, (zone z).setpoint = some p ∧ d = (p - (reading z).value) + ((reading z).value - p)
    let i := b.ramp.pattern
    let r := b.ramp.rate % 60
    let k := b.ramp.rate / 60 + (if r * (i - 1) / 60 < r * i / 60 then 1 else 0)
    ∃ t st, exec .windowStart s = .next t ∧ (st = b.sup.station ∨ st = t.sup.station)
      ∧ (let station := st = .held ∨ st = .halted ∨ s.timer.mains = .lost
        ((t.ramp.causes.curtailed = true ↔ curtailed) ∧ (t.ramp.causes.guard = true ↔ guard)
          ∧ (t.ramp.causes.reading = true ↔ unreadable) ∧ (t.ramp.causes.station = true ↔ station))
        ∧ (t.ramp.held = true ↔ curtailed ∨ guard ∨ unreadable ∨ station))
      ∧ (t.ramp.held = true → t.ramp.pattern = i ∧ ∀ z, (t.ramp.zones.get z).setpoint = (zone z).setpoint)
      ∧ (t.ramp.held = false → t.ramp.pattern = (if i < 60 then i + 1 else 1)
        ∧ ∀ z a p, (zone z).target = some a → (zone z).setpoint = some p →
          (t.ramp.zones.get z).setpoint
            = some (if b.ramp.rate = 0 then a else if p < a then min (p + k) a else max (p - k) a))
      ∧ (∀ z, (zone z).target = none → (t.ramp.zones.get z).setpoint = (zone z).setpoint)
      ∧ (∀ z, (t.ramp.zones.get z).target = (zone z).target ∧ (t.ramp.zones.get z).start = (zone z).start
        ∧ (∀ a p, (t.ramp.zones.get z).target = some a → (t.ramp.zones.get z).setpoint = some p →
            (t.ramp.zones.get z).state = if p < a then .rising else if a < p then .falling else .steady)
        ∧ ((t.ramp.zones.get z).target = none → (t.ramp.zones.get z).state = .steady))
      ∧ (b.ramp.largestDeviation ≤ t.ramp.largestDeviation ∧ (∀ z d, lag z d → d ≤ t.ramp.largestDeviation)
        ∧ (t.ramp.largestDeviation = b.ramp.largestDeviation ∨ ∃ z, lag z t.ramp.largestDeviation))
      ∧ (t.ramp.complete = true ↔ b.ramp.complete = true
        ∨ (t.ramp.held = false ∧ ∀ z a, (zone z).target = some a → (t.ramp.zones.get z).state = .steady
            ∧ (b.ramp.guardBand = 0 ∨ ((reading z).status = .valid ∧ (reading z).value ≤ a + b.ramp.guardBand
                ∧ a ≤ (reading z).value + b.ramp.guardBand))))
      ∧ (t.ramp.partCurrent = true ∧ t.ramp.rate = b.ramp.rate ∧ t.ramp.guardBand = b.ramp.guardBand))
  ∧ (∀ s : State, s.EndsWindow → s.atWindowEnd.ramp.partCurrent = false →
    let r := s.atWindowEnd.ramp
    ∃ t, exec .windowStart s = .next t
      ∧ t.ramp = { r with zones := PerZone.ofFn fun z => { r.zones.get z with state := .steady } })
  ∧ (∀ s : State, s.EndsWindow →
    let r := s.atWindowEnd.ramp
    ∃ t, exec .windowStart s = .next t
      ∧ ∀ z, ((t.ramp.zones.get z).setpoint.isSome = (r.zones.get z).setpoint.isSome)
        ∧ ∀ p q, (r.zones.get z).setpoint = some p → (t.ramp.zones.get z).setpoint = some q → r.rate ≠ 0 →
          q ≤ p + (r.rate + 59) / 60 ∧ p ≤ q + (r.rate + 59) / 60)

/-! ### The bank line (chapter 2) -/

/-- OWN_SLOT with two stations or more: the record is filled with the figures of R18, its status PENDING, and the transmit
buffer then holds its frame (R18, R178). With a station count of 1 the record is SENT at once, the unsent-round count and SOLO
end, the own station is heard and no candidate stays (R19). -/
def Obligations.OwnSlotFillsTheRecord : Prop :=
  (∀ s : State, s.NextReaches (4 + 10 * s.bank.ownNumber.val) → s.store.bank.stationCount ≠ 1 →
    let dark := s.sup.station = .joining ∨ s.sup.station = .halted
    let f : Figures :=
      ⟨s.sup.station, s.store.bank.priority, if dark then 0 else s.zones.powerFirm, if dark then 0 else s.zones.powerExtra,
        s.gas.nitrogenFirm, s.gas.nitrogenExtra⟩
    let t : State := { s.nextHalfCycle with
      bank := { s.bank with record := ⟨.pending, s.timer.round, f, s.bank.signature⟩ } }
    exec .ownSlot s = .next t
    ∧ ∃ frame, t.bank.transmitBuffer = some frame
      ∧ frame.identifier = BitVec.ofNat 11 (0x640 + s.bank.ownNumber.val) ∧ frame.remote = false
      ∧ ∀ k, frame.data.getD k 0 = ([BitVec.ofNat 8 s.timer.round,
          BitVec.ofNat 8 (f.station.code * 16 + f.priority % 16), BitVec.ofNat 8 (f.powerFirm / 16),
          BitVec.ofNat 8 (f.powerFirm % 16 * 16 + f.powerExtra / 256 % 16), BitVec.ofNat 8 (f.powerExtra % 256),
          BitVec.ofNat 8 f.nitrogenFirm, BitVec.ofNat 8 f.nitrogenExtra, BitVec.ofNat 8 s.bank.signature]
          : List Byte).getD k 0)
  ∧ (∀ s : State, s.NextReaches (4 + 10 * s.bank.ownNumber.val) → s.store.bank.stationCount = 1 → s.bank.ownNumber = 0 →
    ∃ f, exec .ownSlot s = .next { s.nextHalfCycle with
        bank := { s.bank with record := ⟨.sent, s.timer.round, f, s.bank.signature⟩, unsent := 0, solo := false }
        timer := { s.timer.counted with ownHeard := true, candidate := none } }
      ∧ f.station = s.sup.station ∧ f.priority = s.store.bank.priority ∧ f.nitrogenFirm = s.gas.nitrogenFirm
      ∧ f.nitrogenExtra = s.gas.nitrogenExtra
      ∧ ((s.sup.station = .joining ∨ s.sup.station = .halted) → f.powerFirm = 0 ∧ f.powerExtra = 0)
      ∧ (s.sup.station ≠ .joining → s.sup.station ≠ .halted →
          f.powerFirm = s.zones.powerFirm ∧ f.powerExtra = s.zones.powerExtra))

/-- ANNOUNCE_SENT of a PENDING record: it is SENT, the own station is heard, the unsent-round count and SOLO end, and the
candidate is re-evaluated; the success of a withdrawn frame has no effect (R11, R20, R21). A failed attempt leaves the buffer
as it is (R17), and the success of a LEAVE empties it (R23). -/
def Obligations.TransmissionsEndAsTheRulesSay : Prop :=
  (∀ s : State, s.bank.record.status = .pending →
    ∃ c, (let t : State := { s with
          bank := { s.bank with record := { s.bank.record with status := .sent }, unsent := 0, solo := false }
          timer := { s.timer with ownHeard := true, candidate := c } }
      exec .announceSent s = .next t ∧ t.CandidateRight))
  ∧ (∀ s : State, s.bank.record.status ≠ .pending → exec .announceSent s = .next s)
  ∧ (∀ s : State, exec .transmitAttemptFail s = .next s)
  ∧ ∀ s : State, exec .leaveSent s = .next { s with bank := { s.bank with pendingLeave := none } }

/-- An ANNOUNCE of a peer accepted by R24 replaces its table entry (R25, R26, R27): the presence by its signature, its
figures, its round, age 0; while PHASED below count N its phase agreement and the candidate are judged (R10, R11); while
LISTENING below count N with the own signature it leaves a listening record (R8). Nothing else changes but PEER_CHANGE and
CONFIG_MISMATCH. -/
def Obligations.AcceptedAnnouncesUpdateThePeer : Prop :=
  ∀ (s : State) (i : StationNo) (q : StationState) (code : Nat) (b1 b2 b3 b4 b5 b6 b7 b8 : Byte) (f : CanFrame),
    s.timer.timer ≠ .stopped → f.remote = false → f.identifier.toNat = 0x640 + i.val → i ≠ s.bank.ownNumber →
    i.val < s.store.bank.stationCount → f.data = [b1, b2, b3, b4, b5, b6, b7, b8] → b2.toNat / 16 = code →
    (code, q) ∈ [(1, StationState.joining), (2, .idle), (3, .running), (4, .held), (5, .halted)] →
    let old := s.bank.peers.get i
    let equal := b8.toNat = s.bank.signature
    let judged := s.timer.timer = .phased ∧ s.timer.windowCount < s.n
    let slot := 4 + 10 * i.val
    let agrees := b1.toNat = s.timer.round ∧ s.timer.windowCount < slot + 2 ∧ slot < s.timer.windowCount + 2
    ∃ t, exec (.announceArrival f) s = .next t
      ∧ t.bank = { s.bank with peers := (s.bank.peers.set i
          { presence := if equal then .fresh else .mismatch
            heard := decide (s.timer.timer = .phased ∧ b1.toNat = s.timer.round)
            lastRound := b1.toNat
            age := 0
            figures := ⟨q, b2.toNat % 16, b3.toNat * 16 + b4.toNat / 16, b4.toNat % 16 * 256 + b5.toNat, b6.toNat,
              b7.toNat⟩
            agrees := if judged then decide agrees else old.agrees }) }
      ∧ t.host = { s.host with reasons := s.host.reasons
          ||| (if old.presence = .absent ∨ old.presence = .stale then 0x2000 else 0)
          ||| (if ¬ equal ∧ old.presence ≠ .mismatch then 0x4000 else 0) }
      ∧ (judged → t.CandidateRight
          ∧ t.timer = { s.timer with judged := t.timer.judged, candidate := t.timer.candidate }
          ∧ ∃ j, t.timer.judged = s.timer.judged.set i (some j) ∧ j.count = s.timer.windowCount ∧ j.round = b1.toNat
            ∧ (j.disagrees = true ↔ ¬ agrees)
            ∧ (j.heard = true ↔ equal ∨ ∃ o, s.timer.judged.get i = some o ∧ o.heard = true))
      ∧ (s.timer.timer = .listening → equal → s.timer.windowCount < s.n →
          t.timer = { s.timer with listening := s.timer.listening.set i (some ⟨s.timer.windowCount, b1.toNat⟩) })
      ∧ (¬ judged → (s.timer.timer = .listening → ¬ equal ∨ s.n ≤ s.timer.windowCount) → t.timer = s.timer)
      ∧ s.SameTube t ∧ t.zones = s.zones ∧ t.share = s.share ∧ t.sup = s.sup ∧ t.pending = s.pending

/-- Frames that change no table entry (R24, R31): none is received in STOPPED; remote frames, other identifiers and wrong
lengths are ignored; a sender at or above the station count raises CONFIG_MISMATCH; a frame with the own number sets the
duplicate hold to 10 and raises DUPLICATE_STATION; it is the same whichever row presents the frame (log entry 17). A LEAVE of
a peer with the own signature sets its entry ABSENT, with PEER_CHANGE unless it was ABSENT; with another signature it raises
CONFIG_MISMATCH and changes no entry (R28). -/
def Obligations.LeavesAndRejectedFrames : Prop :=
  (∀ (s : State) (f : CanFrame) (i : StationNo) (c : Instr), c = .announceArrival f ∨ c = .leaveArrival f →
    let id := f.identifier.toNat
    let duplicate : State := { s with
      bank := { s.bank with duplicateHold := 10 }
      host := { s.host with reasons := s.host.reasons ||| 0x0008 } }
    let mismatch : State := { s with host := { s.host with reasons := s.host.reasons ||| 0x4000 } }
    (s.timer.timer = .stopped → exec c s = .next s)
    ∧ (f.remote = true → exec c s = .next s)
    ∧ ((id < 0x640 ∨ 0x657 < id ∨ (0x647 < id ∧ id < 0x650)) → exec c s = .next s)
    ∧ (s.timer.timer ≠ .stopped → f.remote = false → (id = 0x640 + i.val ∨ id = 0x650 + i.val) →
        (i = s.bank.ownNumber → exec c s = .next duplicate)
        ∧ (i ≠ s.bank.ownNumber → f.data.length ≠ (if id < 0x650 then 8 else 1) → exec c s = .next s)
        ∧ (i ≠ s.bank.ownNumber → f.data.length = (if id < 0x650 then 8 else 1) →
            s.store.bank.stationCount ≤ i.val → exec c s = .next mismatch)
        ∧ (i ≠ s.bank.ownNumber → id = 0x640 + i.val → f.data.length = 8 → i.val < s.store.bank.stationCount →
            ((f.data.getD 1 0).toNat / 16 = 0 ∨ 6 ≤ (f.data.getD 1 0).toNat / 16) → exec c s = .next s)))
  ∧ (∀ (s : State) (i : StationNo) (sig : Byte) (f : CanFrame), s.timer.timer ≠ .stopped → f.remote = false →
    f.identifier.toNat = 0x650 + i.val → i ≠ s.bank.ownNumber → i.val < s.store.bank.stationCount → f.data = [sig] →
    let old := s.bank.peers.get i
    (sig.toNat = s.bank.signature →
      exec (.leaveArrival f) s = .next { s with
        bank := { s.bank with peers := s.bank.peers.set i { old with presence := .absent } }
        host := { s.host with reasons := (if old.presence = .absent then s.host.reasons
          else s.host.reasons ||| 0x2000) } })
    ∧ (sig.toNat ≠ s.bank.signature →
      exec (.leaveArrival f) s = .next { s with host := { s.host with reasons := s.host.reasons ||| 0x4000 } }))

/-! ### The segment executor (chapter 9) -/

/-- SEQUENCE_POSITION of an IDLE station with an empty urgent slot: the head of the queue becomes current, the station is
RUNNING, each present part goes to its block, and QUEUE_LOW is judged by the length left (R92, R93, R111, R125, R144, R156).
The blocks' taking of the parts is Segment.TakenBy (Safety.lean), whose motion start is spelled out in
StopCausesAndMotionStartsActOnTheLoader; what a block's record keeps of an old part when the head has none for it is the model's
choice (log entries 27 and 30). -/
def Obligations.SequencePositionStartsTheHead : Prop :=
  ∀ (s : State) (g : Segment) (rest : List Segment), s.NextReaches (s.n - 20) → s.sup.station = .idle →
    s.exec.urgent = none → s.exec.current = none → s.exec.queue = g :: rest →
    ∃ t, exec .sequencePosition s = .next t
      ∧ t.timer = s.timer.counted ∧ t.bank = s.bank ∧ t.share = s.share ∧ t.scanner = s.scanner ∧ t.zones = s.zonesFired
      ∧ t.sup = { s.sup with station := .running }
      ∧ t.exec = { s.exec with
          queue := rest
          current := some ⟨g, 0, 0, 0, false⟩
          shadow := ⟨none, none, none, none, none⟩ }
      ∧ g.TakenBy s s.ramp s.gas s.loader t
      ∧ t.host = { s.host with reasons := (if 0 < s.exec.lowMark ∧ rest.length ≤ s.exec.lowMark
          then s.host.reasons ||| 0x0400 else s.host.reasons) }

/-- A motion start from AT_REST with an empty stop-cause set, the part just taken by the head that becomes current: at its
target the part is complete and nothing moves; elsewhere the boat moves toward the target if the curtain is established, or
homes first if its position is unknown, and waits for the curtain if it is not (R126, R131). -/
def Obligations.TakenBoatPartsStartTheirMotion : Prop :=
  ∀ (s : State) (g : Segment) (b : BoatSpec) (rest : List Segment), s.NextReaches (s.n - 20) → s.sup.station = .idle →
    s.exec.urgent = none → s.exec.current = none → s.exec.queue = g :: rest → g.boat = some b →
    s.loader.state = .atRest → s.loader.causes = ⟨false, false, false, false, false⟩ →
    let taken : Loader :=
      { s.loader with dwellTotal := 0, part := ⟨true, b.target, b.speed, b.dwellBand, b.maxDwell, false⟩ }
    ∃ t, exec .sequencePosition s = .next t
      ∧ (s.loader.position = some b.target →
          t.loader = { taken with part := { taken.part with complete := true } })
      ∧ (s.loader.position ≠ some b.target → s.gas.established = false →
          t.loader = { taken with state := .waitCurtain })
      ∧ (∀ p, s.loader.position = some p → p ≠ b.target → s.gas.established = true →
          t.loader = { taken with
            state := .moving
            speed := 0
            direction := (if p < b.target then .inward else .outward)
            braking := false
            approach := none })
      ∧ (s.loader.position = none → s.gas.established = true → s.loader.homeActive = false →
          t.loader = { taken with state := .homing, direction := .outward, speed := 0, homingTravel := 0 })

/-- What the loader's shared operations do, over every record. A motion start is made only from AT_REST, with a part current
and incomplete and no stop cause: at the target the part is complete; elsewhere the loader waits for the curtain, or begins
its motion under an established one, which is MOVING toward the target, or HOMING from an unknown position, ended at once by a
home switch that is active (R126, R131). A cause that enters stops a moving loader, at once where its speed is 0, and sends a
waiting one to AT_REST (R132). A stop ends in a motion start with the set empty, in DWELL while DWELL is in it, and in AT_REST
otherwise (R133). A cause that leaves makes a motion start of a loader at rest, and ends a DWELL with the set empty or without
its own cause (R134). The dwell check counts a window of DWELL, stalls past the maximum dwell, releases a DWELL whose zones
have recovered, and stops a push for a lagging zone (R136, R137); a loss of the curtain stops a loader in motion, and an
establishment takes CURTAIN out and starts a waiting one (R135). That a stall keeps the approach record is the model's choice
(log entry 29), as is that homing that ends at once at the target leaves it. -/
def Obligations.StopCausesAndMotionStartsActOnTheLoader : Prop :=
  ∀ (e : Bool) (l : Loader),
    let ready := l.state = .atRest ∧ l.part.current = true ∧ l.part.complete = false
      ∧ l.causes = ⟨false, false, false, false, false⟩
    ((¬ ready → l.motionStart e = l)
      ∧ (ready → l.position = some l.part.target → l.motionStart e = { l with part := { l.part with complete := true } })
      ∧ (ready → l.position ≠ some l.part.target →
          l.motionStart e = if e then ({ l with state := .waitCurtain } : Loader).beginMotion
            else { l with state := .waitCurtain }))
    ∧ ((∀ p, l.position = some p → l.beginMotion = { l with
          state := .moving
          speed := 0
          direction := (if p < l.part.target then .inward else .outward)
          braking := false
          approach := none })
      ∧ (l.position = none → l.homeActive = false →
          l.beginMotion = { l with state := .homing, direction := .outward, speed := 0, homingTravel := 0 })
      ∧ (l.position = none → l.homeActive = true → l.part.target ≠ 0 → l.beginMotion = { l with
          position := some 0
          state := .moving
          speed := 0
          direction := .inward
          homingTravel := 0
          braking := false
          approach := none })
      ∧ (l.position = none → l.homeActive = true → l.part.target = 0 → l.beginMotion = { l with
          position := some 0
          state := .atRest
          speed := 0
          direction := .outward
          homingTravel := 0
          braking := false
          causes := { l.causes with curtain := false, dwell := false }
          part := { l.part with complete := true } }))
    ∧ (let ended : Loader := { l with speed := 0, braking := false, approach := none, state := .atRest }
      l.endStop e = if l.causes = ⟨false, false, false, false, false⟩ then ended.motionStart e
        else if l.causes.dwell then { ended with state := .dwell } else ended)
    ∧ ∀ k, let entered : Loader := { l with causes := l.causes.put k true }
      let gone : Loader := { l with causes := l.causes.put k false }
      (l.causes.has k = true → l.addCause e k = l)
      ∧ (l.causes.has k = false →
        ((l.state = .homing ∨ l.state = .moving) → 0 < l.speed → l.addCause e k = { entered with state := .stopping })
        ∧ ((l.state = .homing ∨ l.state = .moving) → l.speed = 0 → l.addCause e k = { entered with
            speed := 0
            braking := false
            approach := none
            state := if entered.causes.dwell then .dwell else .atRest })
        ∧ (l.state = .waitCurtain → l.addCause e k = { entered with state := .atRest })
        ∧ ((l.state = .atRest ∨ l.state = .stopping ∨ l.state = .dwell ∨ l.state = .stalled) → l.addCause e k = entered))
      ∧ (l.causes.has k = false → l.removeCause e k = l)
      ∧ (l.causes.has k = true →
        (l.state = .atRest → l.removeCause e k = gone.motionStart e)
        ∧ (l.state = .dwell → l.removeCause e k =
            if gone.causes = ⟨false, false, false, false, false⟩ ∨ k = .dwell then
              ({ gone with state := .atRest } : Loader).motionStart e
            else gone)
        ∧ (l.state ≠ .atRest → l.state ≠ .dwell → l.removeCause e k = gone))
    ∧ (∀ recovered lagging : Bool,
      let band := l.part.dwellBand
      let total := if l.causes.dwell then min 65535 (l.dwellTotal + 1) else l.dwellTotal
      let stalls := l.causes.dwell = true ∧ 0 < l.part.maxDwell ∧ l.part.maxDwell < total
      let counted : Loader := { l with dwellTotal := total }
      let kept := if l.state = .dwell ∧ (band = 0 ∨ recovered = true) then counted.removeCause e .dwell else counted
      (stalls → l.dwellCheck e recovered lagging = ({ counted with
        speed := 0
        state := .stalled
        braking := false
        causes := { l.causes with dwell := false } }, true))
      ∧ (¬ stalls → l.dwellCheck e recovered lagging
        = (if kept.state = .moving ∧ kept.direction = .inward ∧ 0 < band ∧ lagging = true then kept.addCause e .dwell
            else kept, false)))
    ∧ (l.inMotion = true ↔ l.state = .homing ∨ l.state = .moving ∨ l.state = .stopping)
    ∧ l.curtainLost = (if l.inMotion then l.addCause false .curtain else l)
    ∧ (let x := l.removeCause true .curtain
      l.curtainEstablished = if x.state = .waitCurtain then x.beginMotion else x)

/-- SEQUENCE_POSITION with a current segment, no urgent command and no JOINING to end; the amend shadow is applied first
(`applyShadow`, spelled out in AmendsReachTheShadowAndThenTheSegment). In RUNNING, a segment not skip pending, with every
present part complete and its minimum duration passed, ends DONE (R154); a skip-pending one ends SKIPPED in RUNNING, HELD and
HALTED once no boat of it is in motion (R149). What an end leaves is State.EndsSegment (Safety.lean): the outcome,
SEGMENT_DONE, the parts gone, and in RUNNING the head of the queue current, or IDLE with QUEUE_EMPTY (R155 to R157). Otherwise
the segment stays current and nothing else changes. What the three part records keep after their part is the model's choice
where the rules do not give it (log entries 27 and 30). -/
def Obligations.SequencePositionEndsTheSegment : Prop :=
  ∀ (s : State) (c : CurrentSegment), s.NextReaches (s.n - 20) → s.exec.urgent = none →
    ¬ (s.sup.station = .joining ∧ s.sup.joiningCount = 2) → s.applyShadow.exec.current = some c →
    let q := s.applyShadow
    ∃ t, exec .sequencePosition s = .next t
      ∧ t.timer = s.timer.counted ∧ t.bank = s.bank ∧ t.share = s.share ∧ t.scanner = s.scanner ∧ t.zones = s.zonesFired
      ∧ (c.DoneIn q → q.EndsSegment c .done t)
      ∧ (c.SkippedIn q → q.EndsSegment c .skipped t)
      ∧ (¬ c.DoneIn q → ¬ c.SkippedIn q → t = { q with timer := s.timer.counted, zones := s.zonesFired })

/-- The urgent command at a sequence position that ends no JOINING. `after r w` says that the result is `r`, that the second
step leaves `w` of what the first one left (`applyShadow`), and that the third step has judged it (State.JudgesSegment in
Safety.lean): HOLD takes a RUNNING or IDLE station to HELD, HOLD entering the stop causes, and is IGNORED elsewhere; RESUME is
IGNORED outside HELD, under a trip or under an asserted HALT line, and otherwise takes the station to RUNNING with a segment
current and to IDLE without one, a STALLED loader to AT_REST with its dwell total at 0, and HOLD out of the stop causes; FLUSH
empties the queue in every state and keeps all else; SKIP is TAKEN in RUNNING and HELD with a segment current, which becomes
skip pending with SKIP among the stop causes: it ends SKIPPED at once without a boat in motion, and waits for the boat's stop
otherwise; a command that is IGNORED leaves its result alone (R137, R148 to R151, R155, with log entries 27 and 30 for what the
part records keep). Where JOINING ends with no urgent command and no current segment, the station goes to HELD with HOLD
entering the stop-cause set when a trip is latched, and to IDLE otherwise, the head of the queue taken at the same position or
left waiting (R156, R162; log entry 4); the loader is otherwise left alone. -/
def Obligations.UrgentCommandsAndTheEndOfJoining : Prop :=
  (∀ (s : State) (k : UrgentKind), s.NextReaches (s.n - 20) →
    ¬ (s.sup.station = .joining ∧ s.sup.joiningCount = 2) → s.exec.urgent = some k →
    let trip := ∃ z, (s.zones.zones.get z).tripped = true
    let q := s.applyShadow
    let e := s.gas.established
    ∃ t, exec .sequencePosition s = .next t ∧ t.exec.urgent = none ∧ t.exec.lastKind = s.exec.lastKind
      ∧ let after := fun (r : UrgentResult) (w : State) => t.exec.lastResult = r
          ∧ ({ w with exec := { w.exec with urgent := none, lastResult := r } } : State).JudgesSegment t
      t.timer = s.timer.counted ∧ t.bank = s.bank ∧ t.share = s.share ∧ t.scanner = s.scanner ∧ t.zones = s.zonesFired
      ∧ (k = .hold →
          (s.sup.station = .running ∨ s.sup.station = .idle →
            after .taken { q with sup := { q.sup with station := .held }, loader := q.loader.addCause e .hold }
            ∧ t.sup.station = .held ∧ t.loader.causes.hold = true)
          ∧ (s.sup.station ≠ .running → s.sup.station ≠ .idle → after .ignored q))
      ∧ (k = .resume →
          (s.sup.station = .held → ¬ trip → s.sup.haltAsserted = false →
            let cleared : Loader :=
              if q.loader.state = .stalled then { q.loader with state := .atRest, dwellTotal := 0 } else q.loader
            after .taken { q with
              sup := { q.sup with station := if s.exec.current = none then .idle else .running }
              loader := cleared.removeCause e .hold }
            ∧ (t.sup.station = .running ∨ t.sup.station = .idle)
            ∧ t.loader.causes.hold = false ∧ t.loader.state ≠ .stalled)
          ∧ (s.sup.station ≠ .held ∨ trip ∨ s.sup.haltAsserted = true → after .ignored q))
      ∧ (k = .skip →
          (∀ c, q.exec.current = some c → (s.sup.station = .running ∨ s.sup.station = .held) →
            let pending : CurrentSegment := { c with skipPending := true }
            let w : State := { q with
              exec := { q.exec with current := some pending, urgent := none, lastResult := .taken }
              loader := q.loader.addCause e .skip }
            t.exec.lastResult = .taken
            ∧ (c.record.boat = none ∨ w.loader.inMotion = false → w.EndsSegment pending .skipped t)
            ∧ (c.record.boat ≠ none → w.loader.inMotion = true → w.loader.causes.skip = true
                ∧ t = { w with timer := s.timer.counted, zones := s.zonesFired }))
          ∧ (s.exec.current = none ∨ (s.sup.station ≠ .running ∧ s.sup.station ≠ .held) → after .ignored q))
      ∧ (k = .flush → after .taken { q with exec := { q.exec with queue := [] } } ∧ t.exec.queue = []))
  ∧ (∀ s : State, s.NextReaches (s.n - 20) → s.sup.station = .joining → s.sup.joiningCount = 2 → s.exec.urgent = none →
    s.exec.current = none →
    ∃ t, exec .sequencePosition s = .next t
      ∧ t.timer = s.timer.counted ∧ t.bank = s.bank ∧ t.share = s.share ∧ t.scanner = s.scanner ∧ t.zones = s.zonesFired
      ∧ (let idle : State := { s with
          sup := { s.sup with station := .idle }
          exec := { s.exec with shadow := ⟨none, none, none, none, none⟩ } }
        (∀ z, (s.zones.zones.get z).tripped = false) →
          (idle.JudgesSegment t ∨ idle.SameSequenceBlocks t)
          ∧ (s.exec.queue = [] → t.sup = { s.sup with station := .idle } ∧ t.loader = s.loader))
      ∧ (let held : State := { s with
          sup := { s.sup with station := .held }
          exec := { s.exec with shadow := ⟨none, none, none, none, none⟩ }
          loader := s.loader.addCause s.gas.established .hold }
        (∃ z, (s.zones.zones.get z).tripped = true) →
          held.SameSequenceBlocks t ∧ t.loader.causes = { s.loader.causes with hold := true }))

/-! ### The share computation (chapter 3) -/

/-- The firm stage: firm figures that fit the limit are granted in full, and the extra stage runs on the remainder; firm
figures that do not are scaled, with no extra (R40). -/
def Obligations.FirmStage : Prop :=
  ∀ (limit : Nat) (cs : List Claimant),
    let total := (cs.map Claimant.firm).sum
    (total ≤ limit → (shareComputation limit cs).map Grant.firm = cs.map Claimant.firm
      ∧ (shareComputation limit cs).map Grant.extra
        = (shareComputation (limit - total) (cs.map fun c => { c with firm := 0 })).map Grant.extra)
    ∧ (limit < total →
        shareComputation limit cs = cs.map fun c => ⟨c.firm * limit / total, 0⟩)
    ∧ ∀ k (h : k < cs.length), (cs[k]'h).firm = 0 → ((shareComputation limit cs)[k]?.map Grant.firm) = some 0

/-- The extra stage of the remainder R, in closed form: with `above` the extra figures of all higher levels and X those of a
claimant's own, its extra grant is 0 when `above` exceeds R (a higher level was scaled), its figure when X fits what is left,
and its figure × what is left / X otherwise (R41). -/
def Obligations.ExtraStage : Prop :=
  ∀ (limit : Nat) (cs : List Claimant), (∀ c ∈ cs, c.priority ≤ 15) → (cs.map Claimant.firm).sum ≤ limit →
    let r := limit - (cs.map Claimant.firm).sum
    let sumOf := fun (keep : Claimant → Bool) => ((cs.filter keep).map Claimant.extra).sum
    (shareComputation limit cs).map Grant.extra = cs.map fun c =>
      let above := sumOf fun d => decide (c.priority < d.priority)
      let x := sumOf fun d => decide (d.priority = c.priority)
      if r < above then 0 else if x ≤ r - above then c.extra else c.extra * (r - above) / x

/-- Law L1: every claimant's grant is at most its firm plus extra, and the grants sum to at most the limit (R42). -/
def Obligations.GrantsStayWithinTheLimit : Prop :=
  ∀ (limit : Nat) (cs : List Claimant),
    ((shareComputation limit cs).map Grant.total).sum ≤ limit
    ∧ ∀ k (h : k < cs.length), ∃ g, (shareComputation limit cs)[k]? = some g
        ∧ g.firm ≤ (cs[k]'h).firm ∧ g.extra ≤ (cs[k]'h).extra

/-- SHARE_POSITION: a record not SENT counts an unsent round, PENDING becoming DROPPED, and SOLO is set and raised on reaching
three (R21, R33); both bank computations then run over the own station and the peers as their presence counts them (R35, R36,
R44, R45), the own grants are kept, capped under a duplicate hold (R46, R47), and BANK_SHORT is raised when a shortfall flag
is newly set (R48). -/
def Obligations.SharePositionComputesTheGrants : Prop :=
  ∀ s : State, s.NextReaches (s.n - 16) →
    let b := s.bank
    let sent := b.record.status = .sent
    let limit := fun (q : Resource) => match q with
      | .power => s.store.bank.powerLimit
      | .nitrogen => s.store.bank.headerCapacity
    let firm := fun (q : Resource) (f : Figures) => match q with
      | .power => f.powerFirm
      | .nitrogen => f.nitrogenFirm
    let extra := fun (q : Resource) (f : Figures) => match q with
      | .power => f.powerExtra
      | .nitrogen => f.nitrogenExtra
    let fallback := fun q => limit q / s.store.bank.stationCount
    let own := fun q => if sent then Claimant.mk (firm q b.record.figures) (extra q b.record.figures) s.store.bank.priority
      else ⟨fallback q, 0, s.store.bank.priority⟩
    let peers := fun q => ([0, 1, 2, 3, 4, 5, 6, 7] : List StationNo).filterMap fun i =>
      let e := b.peers.get i
      if i = b.ownNumber ∨ e.presence = .absent then none
      else if e.presence = .fresh then some (Claimant.mk (firm q e.figures) (extra q e.figures) e.figures.priority)
      else some ⟨fallback q, 0, e.figures.priority⟩
    let computed := fun q => grantOf (limit q) (own q :: peers q) (own q)
    let cap := 0 < b.duplicateHold
    let grant := fun q => if cap then min (computed q).total (fallback q) else (computed q).total
    let firmGrant := fun q => if cap then min (computed q).firm (grant q) else (computed q).firm
    let short := fun q => firmGrant q < (own q).firm
    let newlySolo := ¬ sent ∧ b.unsent = 2
    let newlyShort := (s.share.powerShort = false ∧ short .power) ∨ (s.share.nitrogenShort = false ∧ short .nitrogen)
    exec .sharePosition s = .next { s.nextHalfCycle with
      bank := (if sent then b else { b with
        record := { b.record with status := if b.record.status = .pending then .dropped else b.record.status }
        unsent := min 3 (b.unsent + 1)
        solo := b.solo || decide (2 ≤ b.unsent) })
      share := ⟨grant .power, grant .nitrogen, (own .power).firm, (own .nitrogen).firm, firmGrant .power,
        firmGrant .nitrogen, decide (short .power), decide (short .nitrogen), decide cap⟩
      host := { s.host with reasons := s.host.reasons ||| (if newlySolo then 0x8000 else 0)
        ||| (if newlyShort then 0x1000 else 0) } }

/-! ### The control position (chapters 5 and 7) -/

/-- CONTROL_POSITION applies the control law to every zone in use: a zone without a setpoint has integral and demand 0; one
that is tripped, in open hold or without a VALID reading keeps its integral with demand 0; any other has the integral and the
demand of R75 to R77, and the classes follow the ramp states. The figures of R78 are the sums over the two classes. The
model's choices, DEDUCED in log entry 22: a zone that cannot be controlled takes its class all the same, and the terms of R75
are truncated one by one. -/
def Obligations.ControlPositionAppliesTheLaw : Prop :=
  ∀ s : State, s.NextReaches (s.n - 10) →
    ∃ t, exec .controlPosition s = .next t
      ∧ (∀ z, let v := s.zones.zones.get z
          let w := t.zones.zones.get z
          let cfg := s.store.zones.get z
          let blocked := v.tripped = true ∨ v.openHold = true ∨ (s.scanner.ct.get z).status ≠ .valid
          (cfg.inUse = false → w.integral = v.integral ∧ w.demand = v.demand ∧ w.powerDemand = v.powerDemand
            ∧ w.zoneClass = v.zoneClass)
          ∧ (cfg.inUse = true → w.zoneClass = if (s.ramp.zones.get z).state = .rising then .rising else .firm)
          ∧ (cfg.inUse = true → (s.ramp.zones.get z).setpoint = none →
              w.integral = 0 ∧ w.demand = 0 ∧ w.powerDemand = 0)
          ∧ (cfg.inUse = true → (s.ramp.zones.get z).setpoint ≠ none → blocked →
              w.integral = v.integral ∧ w.demand = 0 ∧ w.powerDemand = 0)
          ∧ ∀ p, cfg.inUse = true → (s.ramp.zones.get z).setpoint = some p → ¬ blocked →
              let e : Int := max (-2000) (min 2000 ((p : Int) - (s.scanner.ct.get z).value))
              let inSpan := ∃ x, s.loader.position = some x ∧ cfg.spanStart ≤ x ∧ x < cfg.spanEnd
                ∧ s.loader.direction = .inward
                ∧ (s.loader.state = .moving ∨ s.loader.state = .stopping ∨ s.loader.state = .dwell)
              (((v.curtailed = true ∧ 0 < e) ∨ s.sup.station = .halted ∨ s.timer.mains = .lost) →
                w.integral = v.integral)
              ∧ (¬ ((v.curtailed = true ∧ 0 < e) ∨ s.sup.station = .halted ∨ s.timer.mains = .lost) →
                (w.integral : Int) = max 0 (min 1000 ((v.integral : Int) + Int.tdiv (cfg.ki * e) 100)))
              ∧ (inSpan → (w.demand : Int)
                  = max 0 (min 1000 (Int.tdiv (cfg.kp * e) 10 + w.integral + cfg.feedForward)))
              ∧ (¬ inSpan → (w.demand : Int) = max 0 (min 1000 (Int.tdiv (cfg.kp * e) 10 + w.integral)))
              ∧ w.powerDemand = (w.demand * cfg.rated + 999) / 1000)
      ∧ (let sumOf := fun k => (([.z1, .z2, .z3, .z4, .z5] : List ZoneId).map fun z =>
            if (s.store.zones.get z).inUse = true ∧ (t.zones.zones.get z).zoneClass = k
            then (t.zones.zones.get z).powerDemand else 0).sum
        t.zones.powerFirm = sumOf .firm ∧ t.zones.powerExtra = sumOf .rising)

/-- CONTROL_POSITION fixes the duties of the next window from the power grant: the claimants are the zones in use, untripped
and with a setpoint, each FIRM or RISING by its class, and their grants are the share computation's over the own power grant
(R79; FirmStage and ExtraStage say what that is), no more than the demand; duty and flag follow R80, and law L3 holds whatever
the state: the duties weighted by rated power stay within the grant. Running duties, counts and latches change only by the
half-cycle that begins. -/
def Obligations.ControlPositionSplitsThePower : Prop :=
  ∀ s : State, s.NextReaches (s.n - 10) →
    ∃ t, exec .controlPosition s = .next t
      ∧ t.timer = s.timer.counted ∧ t.bank = s.bank ∧ t.share = s.share ∧ t.scanner = s.scanner ∧ t.ramp = s.ramp
      ∧ t.loader = s.loader ∧ t.exec = s.exec ∧ t.sup = s.sup ∧ t.host = s.host ∧ t.pending = s.pending
      ∧ (∀ z, let w := t.zones.zones.get z
          let claims := fun z => (s.store.zones.get z).inUse = true ∧ (s.zones.zones.get z).tripped = false
            ∧ (s.ramp.zones.get z).setpoint ≠ none
          let claimant := fun z => let x := t.zones.zones.get z
            if x.zoneClass = .firm then Claimant.mk x.powerDemand 0 0 else ⟨0, x.powerDemand, 0⟩
          let claimants := (([.z1, .z2, .z3, .z4, .z5] : List ZoneId).filter fun z => decide (claims z)).map claimant
          let forced := s.sup.station = .joining ∨ s.sup.station = .halted ∨ s.timer.mains = .lost
          (claims z → w.granted = (grantOf s.share.powerGrant claimants (claimant z)).total)
          ∧ w.granted ≤ w.powerDemand
          ∧ ((s.store.zones.get z).inUse = false ∨ w.tripped = true ∨ (s.ramp.zones.get z).setpoint = none →
              w.granted = 0)
          ∧ w.dutyNext = (if forced then 0 else w.granted * s.n / (s.store.zones.get z).rated)
          ∧ (w.curtailedNext = true ↔ w.granted < w.powerDemand))
      ∧ (([.z1, .z2, .z3, .z4, .z5] : List ZoneId).map fun z => (t.zones.zones.get z).granted).sum ≤ s.share.powerGrant
      ∧ (([.z1, .z2, .z3, .z4, .z5] : List ZoneId).map fun z =>
          (t.zones.zones.get z).dutyNext * (s.store.zones.get z).rated).sum ≤ s.share.powerGrant * s.n
      ∧ ∀ z, ∃ i d p k g n c, t.zones.zones.get z = { s.zonesFired.zones.get z with
          integral := i, demand := d, powerDemand := p, zoneClass := k, granted := g, dutyNext := n, curtailedNext := c }

/-- CONTROL_POSITION requires the curtain outside JOINING unless the boat is sealed (R109), asks the purge flow of an
incomplete part in RUNNING and HELD and the idle purge otherwise (R110), and commands flows within the nitrogen grant (law L4,
R114), the curtain before the purge; both are 0 in JOINING (R112). -/
def Obligations.ControlPositionCommandsTheFlows : Prop :=
  ∀ s : State, s.NextReaches (s.n - 10) →
    let st := s.sup.station
    let sealed := s.loader.position = some s.store.loader.stroke ∧ s.loader.state = .atRest
    let partRuns := (st = .running ∨ st = .held) ∧ s.gas.part.current = true ∧ s.gas.part.complete = false
    let idle := st = .unconfigured ∨ st = .joining
    let grant := s.share.nitrogenGrant
    ∃ t, exec .controlPosition s = .next t
      ∧ (t.gas.required = true ↔ ¬ idle ∧ ¬ sealed)
      ∧ t.gas.nitrogenFirm = (if t.gas.required then s.store.gas.curtainFlow else 0)
      ∧ (partRuns → t.gas.purgeDemand = s.gas.part.flow ∧ t.gas.next.partFlow = true)
      ∧ (¬ partRuns → t.gas.next.partFlow = false
          ∧ t.gas.purgeDemand = if idle then 0 else s.store.gas.idlePurge)
      ∧ t.gas.nitrogenExtra = t.gas.purgeDemand
      ∧ (idle → t.gas.next.curtain = 0 ∧ t.gas.next.purge = 0)
      ∧ (¬ idle → t.gas.next.curtain = min t.gas.nitrogenFirm grant
          ∧ t.gas.next.purge = min t.gas.purgeDemand (grant - t.gas.nitrogenFirm))
      ∧ t.gas.next.curtain + t.gas.next.purge ≤ grant
      ∧ t.gas = { s.gas with
          required := t.gas.required
          purgeDemand := t.gas.purgeDemand
          nitrogenFirm := t.gas.nitrogenFirm
          nitrogenExtra := t.gas.nitrogenExtra
          next := t.gas.next }

/-! ### The scanner, trips and open holds (chapters 4 and 5) -/

/-- BURNOUT_TEST ends the settling half of a thermocouple slot with its open judgement, above 20 kΩ (R58); elsewhere it is no
event (log entry 10). A flow conversion gives the value clamped to 0..255, or holds it as FAULT while the REF check is FAIL
(R64), and is accumulated while the round timer runs (R67). Nothing outside the scanner changes. -/
def Obligations.BurnoutTestsAndFlowConversions : Prop :=
  (∀ (s : State) (ohms : Nat),
    let c := s.scanner
    let thermocouple := (∃ z, c.channel = .ct z) ∨ ∃ z, c.channel = .lt z
    (thermocouple → c.half = .settling → exec (.burnoutTest ohms) s
      = .next { s with scanner := { c with half := .converting, openJudged := some (decide (20000 < ohms)) } })
    ∧ (¬ thermocouple ∨ c.half = .converting → exec (.burnoutTest ohms) s = .next s))
  ∧ (∀ (s : State) (m : Int),
    let c := s.scanner
    let reading := fun old : Reading =>
      if c.refCheck = .fail then (⟨old.value, .fault, if old.age < 15 then old.age + 1 else 15⟩ : Reading)
      else ⟨(max 0 (min 255 m)).toNat, .valid, 0⟩
    let added := fun (a : Accumulation) (r : Reading) =>
      if s.timer.timer = .stopped then a else ⟨a.sum + r.value, a.count + 1⟩
    (c.channel = .fp → exec (.conversionComplete m) s = .next { s with scanner := { c with
      fp := reading c.fp
      fpAcc := added c.fpAcc (reading c.fp)
      channel := .fc
      half := .settling
      openJudged := none } })
    ∧ (c.channel = .fc → exec (.conversionComplete m) s = .next { s with scanner := { c with
      fc := reading c.fc
      fcAcc := added c.fcAcc (reading c.fc)
      channel := .ref
      half := .settling
      openJudged := none } }))

/-- A limit conversion gives its reading by the table of R57 and starts the next slot (R54, R55); with the station not
UNCONFIGURED it trips an untripped zone in use on an open, over-range or over-limit reading, which stops its firing, clears
its next duty, raises ZONE_TRIP, and takes a RUNNING or IDLE station to HELD, with HOLD entering the stop causes (R84, R85,
R165). The model's choices, DEDUCED in log entry 10: a completion without a burnout judgement is read as closed, and is taken
in either half of the slot. -/
def Obligations.LimitConversionsReadAndTrip : Prop :=
  ∀ (s : State) (z : ZoneId) (m : Int), s.scanner.channel = .lt z →
    let c := s.scanner
    let v := s.zones.zones.get z
    let cfg := s.store.zones.get z
    ∃ t r, exec (.conversionComplete m) s = .next t
      ∧ t.scanner = { c with
          lt := c.lt.set z r
          channel := (match z with
            | .z1 => .lt .z2
            | .z2 => .lt .z3
            | .z3 => .lt .z4
            | .z4 => .lt .z5
            | .z5 => .cj)
          half := .settling
          openJudged := none }
      ∧ (let old := c.lt.get z
        (c.openJudged = some true → r = ⟨old.value, .openCircuit, if old.age < 15 then old.age + 1 else 15⟩)
        ∧ (c.openJudged ≠ some true → c.cjCheck = .fail ∨ c.refCheck = .fail →
            r = ⟨old.value, .fault, if old.age < 15 then old.age + 1 else 15⟩)
        ∧ (c.openJudged ≠ some true → c.cjCheck ≠ .fail → c.refCheck ≠ .fail →
            (15000 < m → r = ⟨15000, .over, 0⟩) ∧ (m < 0 → r = ⟨0, .under, 0⟩)
            ∧ (0 ≤ m → m ≤ 15000 → r = ⟨m.toNat, .valid, 0⟩)))
      ∧ (let trips := s.sup.station ≠ .unconfigured ∧ cfg.inUse = true ∧ v.tripped = false
          ∧ (r.status = .openCircuit ∨ r.status = .over ∨ (r.status = .valid ∧ cfg.overLimit < r.value))
        (trips →
          t.zones = { s.zones with zones := s.zones.zones.set z { v with
            tripped := true, firingStopped := true, dutyNext := 0, curtailedNext := false } }
          ∧ t.host = { s.host with reasons := s.host.reasons ||| 0x0002 }
          ∧ t.sup = { s.sup with station := (if s.sup.station = .running ∨ s.sup.station = .idle then .held
              else s.sup.station) }
          ∧ t.loader = (if s.sup.station = .running ∨ s.sup.station = .idle
              then s.loader.addCause s.gas.established .hold else s.loader)
          ∧ (s.sup.station = .running ∨ s.sup.station = .idle → t.loader.causes = { s.loader.causes with hold := true }))
        ∧ (¬ trips → t.zones = s.zones ∧ t.host = s.host ∧ t.sup = s.sup ∧ t.loader = s.loader))
      ∧ t.timer = s.timer ∧ t.bank = s.bank ∧ t.share = s.share ∧ t.ramp = s.ramp ∧ t.gas = s.gas ∧ t.exec = s.exec
      ∧ t.pending = s.pending

/-- A control conversion, read as a limit one is (R57): an OPEN reading of a judged zone enters open hold, with TC_OPEN raised
on entry (R88), and three consecutive VALID readings end it (R89). The model's choices, DEDUCED in log entry 10: a completion
without a burnout judgement is read as closed, and is taken in either half of the slot. -/
def Obligations.ControlConversionsHoldAndRecover : Prop :=
  ∀ (s : State) (z : ZoneId) (m : Int), s.scanner.channel = .ct z →
    let c := s.scanner
    let v := s.zones.zones.get z
    let judged := s.sup.station ≠ .unconfigured ∧ (s.store.zones.get z).inUse = true
    let old := c.ct.get z
    let aged := if old.age < 15 then old.age + 1 else 15
    let r : Reading :=
      if c.openJudged = some true then ⟨old.value, .openCircuit, aged⟩
      else if c.cjCheck = .fail ∨ c.refCheck = .fail then ⟨old.value, .fault, aged⟩
      else if 15000 < m then ⟨15000, .over, 0⟩
      else if m < 0 then ⟨0, .under, 0⟩
      else ⟨m.toNat, .valid, 0⟩
    let w : ZoneState :=
      if r.status = .openCircuit then { v with openHold := true, recovery := 0 }
      else if v.openHold = false then v
      else if r.status ≠ .valid then { v with recovery := 0 }
      else if v.recovery < 2 then { v with recovery := v.recovery + 1 }
      else { v with openHold := false, recovery := 0 }
    ∃ next, exec (.conversionComplete m) s = .next { s with
        scanner := { c with ct := c.ct.set z r, channel := next, half := .settling, openJudged := none }
        zones := (if judged then { s.zones with zones := s.zones.zones.set z w } else s.zones)
        host := (if judged ∧ v.openHold = false ∧ r.status = .openCircuit
          then { s.host with reasons := s.host.reasons ||| 0x0010 } else s.host) }
      ∧ next = (match z with
          | .z1 => .ct .z2
          | .z2 => .ct .z3
          | .z3 => .ct .z4
          | .z4 => .ct .z5
          | .z5 => .lt .z1)

/-- A CJ conversion passes within 0 to 700 and a REF conversion within 480 to 520; a check that fails marks the VALID, OVER
and UNDER readings that rest on it as FAULT, and raises SCAN_FAULT when it enters FAIL (R59 to R61, R63). A converted
reference outside 0..1000 is recorded as the nearer end (log entry 10). -/
def Obligations.ChecksMarkTheReadings : Prop :=
  ∀ (s : State) (m : Int),
    let c := s.scanner
    let mark := fun r : Reading =>
      if r.status = .valid ∨ r.status = .over ∨ r.status = .under then { r with status := .fault } else r
    (c.channel = .cj →
      let pass := 0 ≤ m ∧ m ≤ 700
      ∃ t, exec (.conversionComplete m) s = .next t
        ∧ t.scanner.cj = ⟨(max 0 (min 15000 m)).toNat, if pass then .valid else .fault, 0⟩
        ∧ t.scanner.cjCheck = (if pass then .pass else .fail)
        ∧ t.scanner.channel = .fp ∧ t.scanner.half = .settling
        ∧ (∀ z, t.scanner.ct.get z = (if pass then c.ct.get z else mark (c.ct.get z))
            ∧ t.scanner.lt.get z = if pass then c.lt.get z else mark (c.lt.get z))
        ∧ t.scanner.fp = c.fp ∧ t.scanner.fc = c.fc ∧ t.scanner.ref = c.ref ∧ t.scanner.refCheck = c.refCheck
        ∧ t.host = { s.host with reasons := s.host.reasons ||| (if ¬ pass ∧ c.cjCheck ≠ .fail then 0x0020 else 0) }
        ∧ t = { s with scanner := t.scanner, host := t.host }
        ∧ t.scanner.fpAcc = c.fpAcc ∧ t.scanner.fcAcc = c.fcAcc ∧ t.scanner.lastFp = c.lastFp ∧ t.scanner.lastFc = c.lastFc)
    ∧ (c.channel = .ref →
      let v := max 0 (min 1000 m)
      let pass := 480 ≤ m ∧ m ≤ 520
      ∃ t, exec (.conversionComplete m) s = .next t
        ∧ t.scanner.ref = ⟨v.toNat, if pass then .valid else .fault, 0⟩
        ∧ t.scanner.refCheck = (if pass then .pass else .fail)
        ∧ t.scanner.channel = .ct .z1 ∧ t.scanner.half = .settling
        ∧ (∀ z, t.scanner.ct.get z = (if pass then c.ct.get z else mark (c.ct.get z))
            ∧ t.scanner.lt.get z = if pass then c.lt.get z else mark (c.lt.get z))
        ∧ t.scanner.fp = (if pass then c.fp else mark c.fp) ∧ t.scanner.fc = (if pass then c.fc else mark c.fc)
        ∧ t.scanner.cj = c.cj ∧ t.scanner.cjCheck = c.cjCheck
        ∧ t.host = { s.host with reasons := s.host.reasons ||| (if ¬ pass ∧ c.refCheck ≠ .fail then 0x0020 else 0) }
        ∧ t = { s with scanner := t.scanner, host := t.host }
        ∧ t.scanner.fpAcc = c.fpAcc ∧ t.scanner.fcAcc = c.fcAcc ∧ t.scanner.lastFp = c.lastFp ∧ t.scanner.lastFc = c.lastFc)

/-! ### The boat loader and the HALT line (chapters 8 and 10) -/

/-- MOTION_TICK at a speed v up to 100 that is no speed update: the pattern advances, and the tick issues one step when v × j
/ 100 rounds down to more than at j - 1; a boat that a step brings to its target stops there with the part complete, and no
step goes past it; a homing boat that has travelled the stroke and 500 stalls with LOADER_FAULT; a boat at rest only lets the
tick pass (R127, R128, R131, R137). The count of ticks to the next speed update is the model's, and the tenth tick is the same
as either row (log entry 9). Target braking ends at the target and at a stall, and the approach record stays (log entries 23
and 29). -/
def Obligations.MotionTicksIssueThePattern : Prop :=
  (∀ s : State, s.loader.tickPhase = 9 → exec .motionTick s = exec .speedUpdate s)
  ∧ ∀ s : State, s.loader.tickPhase < 9 →
    let l := s.loader
    let j := if l.pattern < 100 then l.pattern + 1 else 1
    let steps := l.speed * (j - 1) / 100 < l.speed * j / 100
    let ticked : Loader := { l with tickPhase := l.tickPhase + 1, stepOut := false, pattern := j }
    ((l.speed = 0 ∨ (l.state ≠ .homing ∧ l.state ≠ .moving ∧ l.state ≠ .stopping)) →
      exec .motionTick s = .next { s with loader := { l with tickPhase := l.tickPhase + 1, stepOut := false } })
    ∧ (0 < l.speed → l.speed ≤ 100 → (l.state = .homing ∨ l.state = .moving ∨ l.state = .stopping) →
      (¬ steps → exec .motionTick s = .next { s with loader := ticked })
      ∧ (∀ p, steps → l.position = some p → l.direction = .inward → p + 1 < l.part.target →
          exec .motionTick s = .next { s with loader := { ticked with position := some (p + 1), stepOut := true } })
      ∧ (∀ p, steps → l.position = some p → l.direction = .outward → l.part.target + 1 < p →
          exec .motionTick s = .next { s with loader := { ticked with position := some (p - 1), stepOut := true } })
      ∧ (∀ p, steps → l.position = some p → l.direction = .inward → p + 1 = l.part.target →
          exec .motionTick s = .next { s with loader := { ticked with
            position := some (p + 1)
            stepOut := true
            speed := 0
            braking := false
            state := .atRest
            causes := { l.causes with curtain := false, dwell := false }
            part := { l.part with complete := true } } })
      ∧ (∀ p, steps → l.position = some p → l.direction = .outward → p = l.part.target + 1 →
          exec .motionTick s = .next { s with loader := { ticked with
            position := some l.part.target
            stepOut := true
            speed := 0
            braking := false
            state := .atRest
            causes := { l.causes with curtain := false, dwell := false }
            part := { l.part with complete := true } } })
      ∧ (∀ p, steps → l.position = some p → (l.direction = .inward ∧ l.part.target ≤ p) ∨ (l.direction = .outward ∧ p ≤ l.part.target) →
          exec .motionTick s = .next { s with loader := ticked })
      ∧ (steps → l.position = none → l.homingTravel < s.store.loader.stroke + 500 →
          exec .motionTick s = .next { s with loader := { ticked with
            homingTravel := l.homingTravel + 1
            stepOut := true } })
      ∧ (steps → l.position = none → s.store.loader.stroke + 500 ≤ l.homingTravel →
          ∃ t, exec .motionTick s = .next t ∧ t.loader.state = .stalled ∧ t.loader.speed = 0
            ∧ t.loader.position = none ∧ t.host = { s.host with reasons := s.host.reasons ||| 0x0100 }
            ∧ t.sup.station = (if s.sup.station = .running ∨ s.sup.station = .idle then .held else s.sup.station)
            ∧ (s.sup.station = .running ∨ s.sup.station = .idle → t.loader.causes.hold = true)))

/-- SPEED_UPDATE is the tenth motion tick; elsewhere it is no event (R127, log entry 9). The tick's steps come first: `u` is
what the same tick leaves at a place that is no speed update (MotionTicksIssueThePattern), and the update acts on its loader.
HOMING aims at the homing speed within the maximum (R131). MOVING aims at the part speed within the maximum, the limit of a
band that covers the position and that of an approach record whose band is not yet entered; each band ahead, by its near edge
strictly between position and target, whose limit is below the aim lowers it once within its braking distance, and a band
whose limit is then the aim becomes the record (R129); the boat brakes to a creep of 1 for its target (R130). STOPPING slows
by the acceleration step, or by the stop step under HALT, and its end is Loader.endStop (R133,
StopCausesAndMotionStartsActOnTheLoader). Where a band is entered is the model's reading (log entry 23). -/
def Obligations.SpeedUpdatesFollowTheAim : Prop :=
  (∀ s : State, s.loader.tickPhase ≠ 9 → exec .speedUpdate s = .next s)
  ∧ ∀ s : State, s.loader.tickPhase = 9 →
    ∃ u, exec .motionTick { s with loader := { s.loader with tickPhase := 0 } } = .next u ∧
    let l := u.loader
    let cfg := s.store.loader
    let updates := fun x : Loader => exec .speedUpdate s = .next { u with loader := { x with tickPhase := 0 } }
    let toward := fun aim => if l.speed < aim then min aim (l.speed + cfg.accel) else max aim (l.speed - cfg.accel)
    let distance := fun x v => ((x - v) * (x + v + cfg.accel) + 20 * cfg.accel - 1) / (20 * cfg.accel)
    let apart := fun x y => (x - y) + (y - x)
    (l.state = .homing → updates { l with speed := toward (min cfg.homingSpeed cfg.maxSpeed) })
    ∧ (∀ p, l.state = .moving → l.position = some p →
        let band := fun i => s.store.bands.get i
        let entered := fun b : Band => if l.direction = .inward then b.first ≤ p else p < b.last
        let ahead := fun b : Band =>
          let edge := if l.direction = .inward then b.first else b.last - 1
          ((p < edge ∧ edge < l.part.target) ∨ (l.part.target < edge ∧ edge < p)) ∧ apart edge p ≤ distance l.speed b.limit
        ∃ (cover : Nat) (kept record : Option Approach) (aim : Nat),
          let base := min l.part.speed (min cfg.maxSpeed cover)
          let free := match kept with
            | some a => min base a.limit
            | none => base
          ((cover = cfg.maxSpeed ∧ ∀ i b, band i = some b → ¬ (b.first ≤ p ∧ p < b.last))
            ∨ ∃ i b, band i = some b ∧ b.first ≤ p ∧ p < b.last ∧ cover = b.limit)
          ∧ (l.approach = none → kept = none)
          ∧ (∀ a, l.approach = some a → band a.band = none → kept = none)
          ∧ (∀ a b, l.approach = some a → band a.band = some b → kept = if entered b then none else some a)
          ∧ aim ≤ free ∧ (∀ i b, band i = some b → ahead b → aim ≤ b.limit)
          ∧ (aim = free → record = kept)
          ∧ (aim < free → ∃ i b, band i = some b ∧ ahead b ∧ b.limit = aim ∧ record = some ⟨i, aim⟩)
          ∧ updates (
              let braking := l.braking || decide (apart p l.part.target ≤ distance l.speed 0)
              { l with
                approach := record
                braking := braking
                speed := if braking then max (toward 0) 1 else toward aim }))
    ∧ (l.state = .moving → l.position = none → updates l)
    ∧ (l.state = .stopping →
        let step := if l.causes.halt then cfg.stopStep else cfg.accel
        (step < l.speed → updates { l with speed := l.speed - step })
        ∧ (l.speed ≤ step → updates (l.endStop s.gas.established)))
    ∧ ((l.state = .atRest ∨ l.state = .waitCurtain ∨ l.state = .dwell ∨ l.state = .stalled) → updates l)

/-- An activation of the home switch gives position 0: it ends HOMING and an OUT motion, complete at target 0 and MOVING IN
otherwise, and it ends an OUT stop at once (Loader.endStop, StopCausesAndMotionStartsActOnTheLoader); in the other states it
moves nothing, and only the level changes. A release changes the level alone (R124, R131, R133). That target braking ends at
the target and the approach record stays is the model's choice (log entries 23 and 29). -/
def Obligations.HomeSwitchFixesThePosition : Prop :=
  (∀ s : State, s.loader.homeActive = false →
    let l : Loader := { s.loader with homeActive := true }
    ((l.state = .homing ∨ (l.state = .moving ∧ l.direction = .outward)) →
      (l.part.target = 0 → exec .homeSwitchActivation s = .next { s with loader := { l with
        position := some 0
        speed := 0
        braking := false
        state := .atRest
        causes := { l.causes with curtain := false, dwell := false }
        part := { l.part with complete := true } } })
      ∧ (l.part.target ≠ 0 → exec .homeSwitchActivation s = .next { s with loader := { l with
        position := some 0
        speed := 0
        braking := false
        approach := none
        direction := .inward
        state := .moving } }))
    ∧ (l.state = .stopping → l.direction = .outward →
      exec .homeSwitchActivation s
        = .next { s with loader := ({ l with position := some 0 } : Loader).endStop s.gas.established })
    ∧ ((l.state = .atRest ∨ l.state = .waitCurtain ∨ l.state = .dwell ∨ l.state = .stalled
        ∨ ((l.state = .moving ∨ l.state = .stopping) ∧ l.direction = .inward)) →
      exec .homeSwitchActivation s = .next { s with loader := l }))
  ∧ (∀ s : State, s.loader.homeActive = true → exec .homeSwitchActivation s = .next s)
  ∧ ∀ s : State, exec .homeSwitchRelease s = .next { s with loader := { s.loader with homeActive := false } }

/-- An assertion of HALT raises HALT_ACTIVE and halts a configured station, with HALT a stop cause: a moving boat stops, a
waiting one goes to AT_REST; in HALTED it only raises, in UNCONFIGURED only the level changes, and a line asserted already is
no new assertion. A release changes the level alone (R132, R163). Loader.addCause is spelled out in
StopCausesAndMotionStartsActOnTheLoader. -/
def Obligations.HaltStopsTheStation : Prop :=
  (∀ s : State, s.sup.haltAsserted = false →
    let raised : HostPort := { s.host with reasons := s.host.reasons ||| 0x0001 }
    (s.sup.station = .unconfigured → exec .haltAssert s = .next { s with sup := { s.sup with haltAsserted := true } })
    ∧ (s.sup.station = .halted →
        exec .haltAssert s = .next { s with sup := { s.sup with haltAsserted := true }, host := raised })
    ∧ (s.sup.station ≠ .unconfigured → s.sup.station ≠ .halted → exec .haltAssert s = .next { s with
        sup := { s.sup with haltAsserted := true, station := .halted }
        host := raised
        loader := s.loader.addCause s.gas.established .halt })
    ∧ (s.sup.station ≠ .unconfigured → s.sup.station ≠ .halted → s.loader.causes.halt = false →
        let l := s.loader
        let noted : Loader := { l with causes := { l.causes with halt := true } }
        let after := fun x : Loader => exec .haltAssert s = .next { s with
          sup := { s.sup with haltAsserted := true, station := .halted }
          host := raised
          loader := x }
        ((l.state = .homing ∨ l.state = .moving) → 0 < l.speed → after { noted with state := .stopping })
        ∧ (l.state = .waitCurtain → after { noted with state := .atRest })
        ∧ ((l.state = .atRest ∨ l.state = .stopping ∨ l.state = .dwell ∨ l.state = .stalled) → after noted)))
  ∧ (∀ s : State, s.sup.haltAsserted = true → exec .haltAssert s = .next s)
  ∧ ∀ s : State, exec .haltRelease s = .next { s with sup := { s.sup with haltAsserted := false } }

/-! ### What holds of the whole part -/

/-- The part right after hard reset meets every invariant below, commanding no heat, no flow and no step; the firing outputs
and the step output at reset are log entry 2. -/
def Obligations.ResetMeetsTheInvariants : Prop :=
  State.reset.TimerInv ∧ State.reset.HostInv ∧ State.reset.QueueInv ∧ State.reset.LoaderInv ∧ State.reset.RampInv
    ∧ State.reset.FiringInv ∧ State.reset.BankInv ∧ State.reset.CauseInv ∧ State.reset.MotionInv
    ∧ State.reset.loader.StopInv
    ∧ State.reset.pending = []
    ∧ (∀ z, State.reset.contactorClosed z = false ∧ (State.reset.zones.zones.get z).gate = false)
    ∧ State.reset.curtainOutput = 0 ∧ State.reset.purgeOutput = 0 ∧ State.reset.loader.stepOut = false
    ∧ State.reset.attn = false

/-- Every step keeps the host port's bounds and the bond between UNCONFIGURED and STOPPED (R4, R168, R175). -/
def Obligations.StepsKeepTimerAndHost : Prop :=
  ∀ s t : State, s.TimerInv → s.HostInv → step s = .next t → t.TimerInv ∧ t.HostInv

/-- Every step keeps two parts of law L6 and the bound of law L11: at most 16 records queued, with consecutive ids from 1 to
65535, and at most eight outcomes (R142, R143, R157); and such a queue holds no id twice. The third part of law L6, that the
queue never contains the current segment, is SequencePositionStartsTheHead and SequencePositionEndsTheSegment
(State.EndsSegment): the head leaves the queue as it becomes current; and a segment that is appended takes an id that the
queue does not hold. -/
def Obligations.StepsKeepTheQueue : Prop :=
  (∀ s t : State, s.QueueInv → step s = .next t → t.QueueInv)
    ∧ ∀ s : State, s.QueueInv → (s.exec.queue.map Segment.id).Nodup

/-- Every step keeps law L9: the position within the stroke, the speed within the maximum, and 0 in the stopped states (R139). -/
def Obligations.StepsKeepTheLoaderInBounds : Prop :=
  ∀ s t : State, s.LoaderInv → step s = .next t → t.LoaderInv

/-- Every step keeps law L7: setpoints lie between start value and target, and within the zone maximum (R105). -/
def Obligations.StepsKeepTheSetpointsInBounds : Prop :=
  ∀ s t : State, s.RampInv → step s = .next t → t.RampInv

/-- Every step keeps law L2: in every window a zone fires no more than its pattern gives up to the half-cycle under way, and
its duty is at most N (R80, R82). -/
def Obligations.StepsKeepTheFiringWithinTheDuty : Prop :=
  ∀ s t : State, s.FiringInv → step s = .next t →
    t.FiringInv ∧ ∀ z, (t.zones.zones.get z).fired ≤ (t.zones.zones.get z).dutyRunning

/-- Every step keeps the bank link's bounds: SOLO exactly at three unsent rounds, a duplicate hold of at most 10, entries only
for peers below the station count (R24, R31 to R34). Every step keeps HALT among the stop causes exactly while the station is
HALTED, and HOLD throughout HELD (R132, R163, R164). Every step keeps what the loader's state says of its stop causes: HOMING,
MOVING and WAIT_CURTAIN have none, and DWELL is one of a stop or of the state DWELL alone (Loader.StopInv; R126, R132, R133,
R136). -/
def Obligations.StepsKeepTheBankLinkAndTheStopCauses : Prop :=
  (∀ s t : State, s.BankInv → step s = .next t → t.BankInv)
  ∧ (∀ s t : State, s.CauseInv → step s = .next t → t.CauseInv)
  ∧ ∀ s t : State, s.loader.StopInv → step s = .next t → t.loader.StopInv

/-- Law L10: no step sets a boat in motion unless the curtain is established after it; nor does a step bring a loader to
HOMING or MOVING that was in neither, a stop that ends with an empty set among them (R133), unless the curtain is established.
What keeps it, and every step keeps, is that a loader HOMING or MOVING has the curtain established and no loss of it among its
stop causes (R135, R139). -/
def Obligations.MotionBeginsUnderTheCurtain : Prop :=
  (∀ s t : State, s.loader.inMotion = false → step s = .next t → t.loader.inMotion = true → t.gas.established = true)
  ∧ (∀ s t : State, s.loader.state ≠ .homing → s.loader.state ≠ .moving → step s = .next t →
    (t.loader.state = .homing ∨ t.loader.state = .moving) → t.gas.established = true)
  ∧ ∀ s t : State, s.MotionInv → step s = .next t → t.MotionInv

/-- Over the positions 1 to P of a period P, a figure d at most P is spread over exactly d of them, as in the duty pattern
(R82, P = N), the ramp's extra unit (R98, P = 60) and the loader's steps (R128, P = 100). -/
def Obligations.PatternsSpreadExactly : Prop :=
  ∀ d p : Nat, 0 < p → d ≤ p →
    ((List.range p).filter fun i => patternExtra d (i + 1) p).length = d
      ∧ (0 < d → patternExtra d p p = true)
      ∧ ∀ k, k ≤ p → ((List.range k).filter fun i => patternExtra d (i + 1) p).length = d * k / p

end
end

