-- ==== Sys2Proof/Laws/Containers.lean ====
section
/-! SUPPORT. Reading what was written in the two fixed-size collections, and the arithmetic helpers as minimum and maximum. -/

namespace Sys2Proof

@[simp] theorem PerZone.get_all {α : Type} (v : α) (z : ZoneId) : (PerZone.all v).get z = v := by cases z <;> rfl

@[simp] theorem PerZone.get_ofFn {α : Type} (f : ZoneId → α) (z : ZoneId) : (PerZone.ofFn f).get z = f z := by
  cases z <;> rfl

@[simp] theorem PerZone.get_set {α : Type} (p : PerZone α) (z w : ZoneId) (v : α) :
    (p.set z v).get w = if w = z then v else p.get w := by simp [PerZone.set]

/-- Two collections with the same items are the same. -/
theorem PerZone.ext_get {α : Type} {p q : PerZone α} (h : ∀ z, p.get z = q.get z) : p = q := by
  have h1 := h .z1
  have h2 := h .z2
  have h3 := h .z3
  have h4 := h .z4
  have h5 := h .z5
  cases p
  cases q
  simp_all [PerZone.get]

@[simp] theorem PerEight.get_all {α : Type} (v : α) (i : Fin 8) : (PerEight.all v).get i = v := by
  fin_cases i <;> rfl

@[simp] theorem PerEight.get_ofFn {α : Type} (f : Fin 8 → α) (i : Fin 8) : (PerEight.ofFn f).get i = f i := by
  fin_cases i <;> rfl

@[simp] theorem PerEight.get_set {α : Type} (p : PerEight α) (i j : Fin 8) (v : α) :
    (p.set i v).get j = if j = i then v else p.get j := by simp [PerEight.set]

/-- Two collections with the same items are the same. -/
theorem PerEight.ext_get {α : Type} {p q : PerEight α} (h : ∀ i, p.get i = q.get i) : p = q := by
  have h0 := h 0
  have h1 := h 1
  have h2 := h 2
  have h3 := h 3
  have h4 := h 4
  have h5 := h 5
  have h6 := h 6
  have h7 := h 7
  cases p
  cases q
  simp_all [PerEight.get]

/-- Every zone stands in the list of zones. -/
@[simp] theorem ZoneId.mem_list (z : ZoneId) : z ∈ ZoneId.list := by cases z <;> decide

/-- Every number stands in the list of numbers. -/
@[simp] theorem mem_eightNumbers (i : Fin 8) : i ∈ eightNumbers := by fin_cases i <;> decide

/-- A zone index names its zone. -/
@[simp] theorem ZoneId.ofIndex_index (z : ZoneId) : ZoneId.ofIndex? z.index = some z := by cases z <;> rfl

/-- Zone indices above 4 name no zone. -/
theorem ZoneId.ofIndex_none {n : Nat} (h : 4 < n) : ZoneId.ofIndex? n = none := by
  unfold ZoneId.ofIndex?
  split <;> first | omega | rfl

/-- Clamping to a range from 0 is a minimum. -/
theorem clampNat_zero (hi n : Nat) : clampNat 0 hi n = min n hi := by
  unfold clampNat
  split <;> (try split) <;> omega

/-- Clamping to a range is a minimum and a maximum. -/
theorem clampNat_eq {lo hi : Nat} (n : Nat) (h : lo ≤ hi) : clampNat lo hi n = max lo (min n hi) := by
  unfold clampNat
  split <;> (try split) <;> omega

/-- The same over signed values. -/
theorem clampInt_eq {lo hi : Int} (n : Int) (h : lo ≤ hi) : clampInt lo hi n = max lo (min hi n) := by
  unfold clampInt
  split <;> (try split) <;> omega

/-- A saturating count. -/
theorem satAdd1_eq (limit n : Nat) : satAdd1 limit n = min limit (n + 1) := by
  unfold satAdd1
  split <;> omega

/-- The difference of two figures, as a sum of which one part is 0. -/
theorem absDiff_eq (a b : Nat) : absDiff a b = (a - b) + (b - a) := by
  unfold absDiff
  split <;> omega

end Sys2Proof
end

