-- ==== Sys2Proof/Laws/State.lean ====
section
/-! SUPPORT. One lemma per field per replacement of a block's state, so that no proof unfolds a record update, and the
lemmas that a replacement writes what it is given. -/

namespace Sys2Proof.Machine

@[simp] theorem State.setTimer_timer (s : State) (v : RoundTimer) : (s.setTimer v).timer = v := rfl
@[simp] theorem State.setTimer_bank (s : State) (v : RoundTimer) : (s.setTimer v).bank = s.bank := rfl
@[simp] theorem State.setTimer_share (s : State) (v : RoundTimer) : (s.setTimer v).share = s.share := rfl
@[simp] theorem State.setTimer_scanner (s : State) (v : RoundTimer) : (s.setTimer v).scanner = s.scanner := rfl
@[simp] theorem State.setTimer_zones (s : State) (v : RoundTimer) : (s.setTimer v).zones = s.zones := rfl
@[simp] theorem State.setTimer_ramp (s : State) (v : RoundTimer) : (s.setTimer v).ramp = s.ramp := rfl
@[simp] theorem State.setTimer_gas (s : State) (v : RoundTimer) : (s.setTimer v).gas = s.gas := rfl
@[simp] theorem State.setTimer_loader (s : State) (v : RoundTimer) : (s.setTimer v).loader = s.loader := rfl
@[simp] theorem State.setTimer_exec (s : State) (v : RoundTimer) : (s.setTimer v).exec = s.exec := rfl
@[simp] theorem State.setTimer_sup (s : State) (v : RoundTimer) : (s.setTimer v).sup = s.sup := rfl
@[simp] theorem State.setTimer_host (s : State) (v : RoundTimer) : (s.setTimer v).host = s.host := rfl
@[simp] theorem State.setTimer_freeIndex (s : State) (v : RoundTimer) : (s.setTimer v).freeIndex = s.freeIndex := rfl
@[simp] theorem State.setTimer_pending (s : State) (v : RoundTimer) : (s.setTimer v).pending = s.pending := rfl
@[simp] theorem State.setTimer_setTimer (s : State) (v w : RoundTimer) : (s.setTimer v).setTimer w = s.setTimer w := rfl

@[simp] theorem State.setBank_timer (s : State) (v : BankLink) : (s.setBank v).timer = s.timer := rfl
@[simp] theorem State.setBank_bank (s : State) (v : BankLink) : (s.setBank v).bank = v := rfl
@[simp] theorem State.setBank_share (s : State) (v : BankLink) : (s.setBank v).share = s.share := rfl
@[simp] theorem State.setBank_scanner (s : State) (v : BankLink) : (s.setBank v).scanner = s.scanner := rfl
@[simp] theorem State.setBank_zones (s : State) (v : BankLink) : (s.setBank v).zones = s.zones := rfl
@[simp] theorem State.setBank_ramp (s : State) (v : BankLink) : (s.setBank v).ramp = s.ramp := rfl
@[simp] theorem State.setBank_gas (s : State) (v : BankLink) : (s.setBank v).gas = s.gas := rfl
@[simp] theorem State.setBank_loader (s : State) (v : BankLink) : (s.setBank v).loader = s.loader := rfl
@[simp] theorem State.setBank_exec (s : State) (v : BankLink) : (s.setBank v).exec = s.exec := rfl
@[simp] theorem State.setBank_sup (s : State) (v : BankLink) : (s.setBank v).sup = s.sup := rfl
@[simp] theorem State.setBank_host (s : State) (v : BankLink) : (s.setBank v).host = s.host := rfl
@[simp] theorem State.setBank_freeIndex (s : State) (v : BankLink) : (s.setBank v).freeIndex = s.freeIndex := rfl
@[simp] theorem State.setBank_pending (s : State) (v : BankLink) : (s.setBank v).pending = s.pending := rfl
@[simp] theorem State.setBank_setBank (s : State) (v w : BankLink) : (s.setBank v).setBank w = s.setBank w := rfl

@[simp] theorem State.setShare_timer (s : State) (v : ShareUnit) : (s.setShare v).timer = s.timer := rfl
@[simp] theorem State.setShare_bank (s : State) (v : ShareUnit) : (s.setShare v).bank = s.bank := rfl
@[simp] theorem State.setShare_share (s : State) (v : ShareUnit) : (s.setShare v).share = v := rfl
@[simp] theorem State.setShare_scanner (s : State) (v : ShareUnit) : (s.setShare v).scanner = s.scanner := rfl
@[simp] theorem State.setShare_zones (s : State) (v : ShareUnit) : (s.setShare v).zones = s.zones := rfl
@[simp] theorem State.setShare_ramp (s : State) (v : ShareUnit) : (s.setShare v).ramp = s.ramp := rfl
@[simp] theorem State.setShare_gas (s : State) (v : ShareUnit) : (s.setShare v).gas = s.gas := rfl
@[simp] theorem State.setShare_loader (s : State) (v : ShareUnit) : (s.setShare v).loader = s.loader := rfl
@[simp] theorem State.setShare_exec (s : State) (v : ShareUnit) : (s.setShare v).exec = s.exec := rfl
@[simp] theorem State.setShare_sup (s : State) (v : ShareUnit) : (s.setShare v).sup = s.sup := rfl
@[simp] theorem State.setShare_host (s : State) (v : ShareUnit) : (s.setShare v).host = s.host := rfl
@[simp] theorem State.setShare_freeIndex (s : State) (v : ShareUnit) : (s.setShare v).freeIndex = s.freeIndex := rfl
@[simp] theorem State.setShare_pending (s : State) (v : ShareUnit) : (s.setShare v).pending = s.pending := rfl
@[simp] theorem State.setShare_setShare (s : State) (v w : ShareUnit) : (s.setShare v).setShare w = s.setShare w := rfl

@[simp] theorem State.setScanner_timer (s : State) (v : Scanner) : (s.setScanner v).timer = s.timer := rfl
@[simp] theorem State.setScanner_bank (s : State) (v : Scanner) : (s.setScanner v).bank = s.bank := rfl
@[simp] theorem State.setScanner_share (s : State) (v : Scanner) : (s.setScanner v).share = s.share := rfl
@[simp] theorem State.setScanner_scanner (s : State) (v : Scanner) : (s.setScanner v).scanner = v := rfl
@[simp] theorem State.setScanner_zones (s : State) (v : Scanner) : (s.setScanner v).zones = s.zones := rfl
@[simp] theorem State.setScanner_ramp (s : State) (v : Scanner) : (s.setScanner v).ramp = s.ramp := rfl
@[simp] theorem State.setScanner_gas (s : State) (v : Scanner) : (s.setScanner v).gas = s.gas := rfl
@[simp] theorem State.setScanner_loader (s : State) (v : Scanner) : (s.setScanner v).loader = s.loader := rfl
@[simp] theorem State.setScanner_exec (s : State) (v : Scanner) : (s.setScanner v).exec = s.exec := rfl
@[simp] theorem State.setScanner_sup (s : State) (v : Scanner) : (s.setScanner v).sup = s.sup := rfl
@[simp] theorem State.setScanner_host (s : State) (v : Scanner) : (s.setScanner v).host = s.host := rfl
@[simp] theorem State.setScanner_freeIndex (s : State) (v : Scanner) : (s.setScanner v).freeIndex = s.freeIndex := rfl
@[simp] theorem State.setScanner_pending (s : State) (v : Scanner) : (s.setScanner v).pending = s.pending := rfl
@[simp] theorem State.setScanner_setScanner (s : State) (v w : Scanner) : (s.setScanner v).setScanner w = s.setScanner w := rfl

@[simp] theorem State.setZones_timer (s : State) (v : ZoneControl) : (s.setZones v).timer = s.timer := rfl
@[simp] theorem State.setZones_bank (s : State) (v : ZoneControl) : (s.setZones v).bank = s.bank := rfl
@[simp] theorem State.setZones_share (s : State) (v : ZoneControl) : (s.setZones v).share = s.share := rfl
@[simp] theorem State.setZones_scanner (s : State) (v : ZoneControl) : (s.setZones v).scanner = s.scanner := rfl
@[simp] theorem State.setZones_zones (s : State) (v : ZoneControl) : (s.setZones v).zones = v := rfl
@[simp] theorem State.setZones_ramp (s : State) (v : ZoneControl) : (s.setZones v).ramp = s.ramp := rfl
@[simp] theorem State.setZones_gas (s : State) (v : ZoneControl) : (s.setZones v).gas = s.gas := rfl
@[simp] theorem State.setZones_loader (s : State) (v : ZoneControl) : (s.setZones v).loader = s.loader := rfl
@[simp] theorem State.setZones_exec (s : State) (v : ZoneControl) : (s.setZones v).exec = s.exec := rfl
@[simp] theorem State.setZones_sup (s : State) (v : ZoneControl) : (s.setZones v).sup = s.sup := rfl
@[simp] theorem State.setZones_host (s : State) (v : ZoneControl) : (s.setZones v).host = s.host := rfl
@[simp] theorem State.setZones_freeIndex (s : State) (v : ZoneControl) : (s.setZones v).freeIndex = s.freeIndex := rfl
@[simp] theorem State.setZones_pending (s : State) (v : ZoneControl) : (s.setZones v).pending = s.pending := rfl
@[simp] theorem State.setZones_setZones (s : State) (v w : ZoneControl) : (s.setZones v).setZones w = s.setZones w := rfl

@[simp] theorem State.setRamp_timer (s : State) (v : Ramp) : (s.setRamp v).timer = s.timer := rfl
@[simp] theorem State.setRamp_bank (s : State) (v : Ramp) : (s.setRamp v).bank = s.bank := rfl
@[simp] theorem State.setRamp_share (s : State) (v : Ramp) : (s.setRamp v).share = s.share := rfl
@[simp] theorem State.setRamp_scanner (s : State) (v : Ramp) : (s.setRamp v).scanner = s.scanner := rfl
@[simp] theorem State.setRamp_zones (s : State) (v : Ramp) : (s.setRamp v).zones = s.zones := rfl
@[simp] theorem State.setRamp_ramp (s : State) (v : Ramp) : (s.setRamp v).ramp = v := rfl
@[simp] theorem State.setRamp_gas (s : State) (v : Ramp) : (s.setRamp v).gas = s.gas := rfl
@[simp] theorem State.setRamp_loader (s : State) (v : Ramp) : (s.setRamp v).loader = s.loader := rfl
@[simp] theorem State.setRamp_exec (s : State) (v : Ramp) : (s.setRamp v).exec = s.exec := rfl
@[simp] theorem State.setRamp_sup (s : State) (v : Ramp) : (s.setRamp v).sup = s.sup := rfl
@[simp] theorem State.setRamp_host (s : State) (v : Ramp) : (s.setRamp v).host = s.host := rfl
@[simp] theorem State.setRamp_freeIndex (s : State) (v : Ramp) : (s.setRamp v).freeIndex = s.freeIndex := rfl
@[simp] theorem State.setRamp_pending (s : State) (v : Ramp) : (s.setRamp v).pending = s.pending := rfl
@[simp] theorem State.setRamp_setRamp (s : State) (v w : Ramp) : (s.setRamp v).setRamp w = s.setRamp w := rfl

@[simp] theorem State.setGas_timer (s : State) (v : Gas) : (s.setGas v).timer = s.timer := rfl
@[simp] theorem State.setGas_bank (s : State) (v : Gas) : (s.setGas v).bank = s.bank := rfl
@[simp] theorem State.setGas_share (s : State) (v : Gas) : (s.setGas v).share = s.share := rfl
@[simp] theorem State.setGas_scanner (s : State) (v : Gas) : (s.setGas v).scanner = s.scanner := rfl
@[simp] theorem State.setGas_zones (s : State) (v : Gas) : (s.setGas v).zones = s.zones := rfl
@[simp] theorem State.setGas_ramp (s : State) (v : Gas) : (s.setGas v).ramp = s.ramp := rfl
@[simp] theorem State.setGas_gas (s : State) (v : Gas) : (s.setGas v).gas = v := rfl
@[simp] theorem State.setGas_loader (s : State) (v : Gas) : (s.setGas v).loader = s.loader := rfl
@[simp] theorem State.setGas_exec (s : State) (v : Gas) : (s.setGas v).exec = s.exec := rfl
@[simp] theorem State.setGas_sup (s : State) (v : Gas) : (s.setGas v).sup = s.sup := rfl
@[simp] theorem State.setGas_host (s : State) (v : Gas) : (s.setGas v).host = s.host := rfl
@[simp] theorem State.setGas_freeIndex (s : State) (v : Gas) : (s.setGas v).freeIndex = s.freeIndex := rfl
@[simp] theorem State.setGas_pending (s : State) (v : Gas) : (s.setGas v).pending = s.pending := rfl
@[simp] theorem State.setGas_setGas (s : State) (v w : Gas) : (s.setGas v).setGas w = s.setGas w := rfl

@[simp] theorem State.setLoader_timer (s : State) (v : Loader) : (s.setLoader v).timer = s.timer := rfl
@[simp] theorem State.setLoader_bank (s : State) (v : Loader) : (s.setLoader v).bank = s.bank := rfl
@[simp] theorem State.setLoader_share (s : State) (v : Loader) : (s.setLoader v).share = s.share := rfl
@[simp] theorem State.setLoader_scanner (s : State) (v : Loader) : (s.setLoader v).scanner = s.scanner := rfl
@[simp] theorem State.setLoader_zones (s : State) (v : Loader) : (s.setLoader v).zones = s.zones := rfl
@[simp] theorem State.setLoader_ramp (s : State) (v : Loader) : (s.setLoader v).ramp = s.ramp := rfl
@[simp] theorem State.setLoader_gas (s : State) (v : Loader) : (s.setLoader v).gas = s.gas := rfl
@[simp] theorem State.setLoader_loader (s : State) (v : Loader) : (s.setLoader v).loader = v := rfl
@[simp] theorem State.setLoader_exec (s : State) (v : Loader) : (s.setLoader v).exec = s.exec := rfl
@[simp] theorem State.setLoader_sup (s : State) (v : Loader) : (s.setLoader v).sup = s.sup := rfl
@[simp] theorem State.setLoader_host (s : State) (v : Loader) : (s.setLoader v).host = s.host := rfl
@[simp] theorem State.setLoader_freeIndex (s : State) (v : Loader) : (s.setLoader v).freeIndex = s.freeIndex := rfl
@[simp] theorem State.setLoader_pending (s : State) (v : Loader) : (s.setLoader v).pending = s.pending := rfl
@[simp] theorem State.setLoader_setLoader (s : State) (v w : Loader) : (s.setLoader v).setLoader w = s.setLoader w := rfl

@[simp] theorem State.setExec_timer (s : State) (v : Executor) : (s.setExec v).timer = s.timer := rfl
@[simp] theorem State.setExec_bank (s : State) (v : Executor) : (s.setExec v).bank = s.bank := rfl
@[simp] theorem State.setExec_share (s : State) (v : Executor) : (s.setExec v).share = s.share := rfl
@[simp] theorem State.setExec_scanner (s : State) (v : Executor) : (s.setExec v).scanner = s.scanner := rfl
@[simp] theorem State.setExec_zones (s : State) (v : Executor) : (s.setExec v).zones = s.zones := rfl
@[simp] theorem State.setExec_ramp (s : State) (v : Executor) : (s.setExec v).ramp = s.ramp := rfl
@[simp] theorem State.setExec_gas (s : State) (v : Executor) : (s.setExec v).gas = s.gas := rfl
@[simp] theorem State.setExec_loader (s : State) (v : Executor) : (s.setExec v).loader = s.loader := rfl
@[simp] theorem State.setExec_exec (s : State) (v : Executor) : (s.setExec v).exec = v := rfl
@[simp] theorem State.setExec_sup (s : State) (v : Executor) : (s.setExec v).sup = s.sup := rfl
@[simp] theorem State.setExec_host (s : State) (v : Executor) : (s.setExec v).host = s.host := rfl
@[simp] theorem State.setExec_freeIndex (s : State) (v : Executor) : (s.setExec v).freeIndex = s.freeIndex := rfl
@[simp] theorem State.setExec_pending (s : State) (v : Executor) : (s.setExec v).pending = s.pending := rfl
@[simp] theorem State.setExec_setExec (s : State) (v w : Executor) : (s.setExec v).setExec w = s.setExec w := rfl

@[simp] theorem State.setSup_timer (s : State) (v : Supervisor) : (s.setSup v).timer = s.timer := rfl
@[simp] theorem State.setSup_bank (s : State) (v : Supervisor) : (s.setSup v).bank = s.bank := rfl
@[simp] theorem State.setSup_share (s : State) (v : Supervisor) : (s.setSup v).share = s.share := rfl
@[simp] theorem State.setSup_scanner (s : State) (v : Supervisor) : (s.setSup v).scanner = s.scanner := rfl
@[simp] theorem State.setSup_zones (s : State) (v : Supervisor) : (s.setSup v).zones = s.zones := rfl
@[simp] theorem State.setSup_ramp (s : State) (v : Supervisor) : (s.setSup v).ramp = s.ramp := rfl
@[simp] theorem State.setSup_gas (s : State) (v : Supervisor) : (s.setSup v).gas = s.gas := rfl
@[simp] theorem State.setSup_loader (s : State) (v : Supervisor) : (s.setSup v).loader = s.loader := rfl
@[simp] theorem State.setSup_exec (s : State) (v : Supervisor) : (s.setSup v).exec = s.exec := rfl
@[simp] theorem State.setSup_sup (s : State) (v : Supervisor) : (s.setSup v).sup = v := rfl
@[simp] theorem State.setSup_host (s : State) (v : Supervisor) : (s.setSup v).host = s.host := rfl
@[simp] theorem State.setSup_freeIndex (s : State) (v : Supervisor) : (s.setSup v).freeIndex = s.freeIndex := rfl
@[simp] theorem State.setSup_pending (s : State) (v : Supervisor) : (s.setSup v).pending = s.pending := rfl
@[simp] theorem State.setSup_setSup (s : State) (v w : Supervisor) : (s.setSup v).setSup w = s.setSup w := rfl

@[simp] theorem State.setHost_timer (s : State) (v : HostPort) : (s.setHost v).timer = s.timer := rfl
@[simp] theorem State.setHost_bank (s : State) (v : HostPort) : (s.setHost v).bank = s.bank := rfl
@[simp] theorem State.setHost_share (s : State) (v : HostPort) : (s.setHost v).share = s.share := rfl
@[simp] theorem State.setHost_scanner (s : State) (v : HostPort) : (s.setHost v).scanner = s.scanner := rfl
@[simp] theorem State.setHost_zones (s : State) (v : HostPort) : (s.setHost v).zones = s.zones := rfl
@[simp] theorem State.setHost_ramp (s : State) (v : HostPort) : (s.setHost v).ramp = s.ramp := rfl
@[simp] theorem State.setHost_gas (s : State) (v : HostPort) : (s.setHost v).gas = s.gas := rfl
@[simp] theorem State.setHost_loader (s : State) (v : HostPort) : (s.setHost v).loader = s.loader := rfl
@[simp] theorem State.setHost_exec (s : State) (v : HostPort) : (s.setHost v).exec = s.exec := rfl
@[simp] theorem State.setHost_sup (s : State) (v : HostPort) : (s.setHost v).sup = s.sup := rfl
@[simp] theorem State.setHost_host (s : State) (v : HostPort) : (s.setHost v).host = v := rfl
@[simp] theorem State.setHost_freeIndex (s : State) (v : HostPort) : (s.setHost v).freeIndex = s.freeIndex := rfl
@[simp] theorem State.setHost_pending (s : State) (v : HostPort) : (s.setHost v).pending = s.pending := rfl
@[simp] theorem State.setHost_setHost (s : State) (v w : HostPort) : (s.setHost v).setHost w = s.setHost w := rfl

@[simp] theorem State.setFreeIndex_timer (s : State) (v : Nat) : (s.setFreeIndex v).timer = s.timer := rfl
@[simp] theorem State.setFreeIndex_bank (s : State) (v : Nat) : (s.setFreeIndex v).bank = s.bank := rfl
@[simp] theorem State.setFreeIndex_share (s : State) (v : Nat) : (s.setFreeIndex v).share = s.share := rfl
@[simp] theorem State.setFreeIndex_scanner (s : State) (v : Nat) : (s.setFreeIndex v).scanner = s.scanner := rfl
@[simp] theorem State.setFreeIndex_zones (s : State) (v : Nat) : (s.setFreeIndex v).zones = s.zones := rfl
@[simp] theorem State.setFreeIndex_ramp (s : State) (v : Nat) : (s.setFreeIndex v).ramp = s.ramp := rfl
@[simp] theorem State.setFreeIndex_gas (s : State) (v : Nat) : (s.setFreeIndex v).gas = s.gas := rfl
@[simp] theorem State.setFreeIndex_loader (s : State) (v : Nat) : (s.setFreeIndex v).loader = s.loader := rfl
@[simp] theorem State.setFreeIndex_exec (s : State) (v : Nat) : (s.setFreeIndex v).exec = s.exec := rfl
@[simp] theorem State.setFreeIndex_sup (s : State) (v : Nat) : (s.setFreeIndex v).sup = s.sup := rfl
@[simp] theorem State.setFreeIndex_host (s : State) (v : Nat) : (s.setFreeIndex v).host = s.host := rfl
@[simp] theorem State.setFreeIndex_freeIndex (s : State) (v : Nat) : (s.setFreeIndex v).freeIndex = v := rfl
@[simp] theorem State.setFreeIndex_pending (s : State) (v : Nat) : (s.setFreeIndex v).pending = s.pending := rfl
@[simp] theorem State.setFreeIndex_setFreeIndex (s : State) (v w : Nat) : (s.setFreeIndex v).setFreeIndex w = s.setFreeIndex w := rfl

@[simp] theorem State.setPending_timer (s : State) (v : List Instr) : (s.setPending v).timer = s.timer := rfl
@[simp] theorem State.setPending_bank (s : State) (v : List Instr) : (s.setPending v).bank = s.bank := rfl
@[simp] theorem State.setPending_share (s : State) (v : List Instr) : (s.setPending v).share = s.share := rfl
@[simp] theorem State.setPending_scanner (s : State) (v : List Instr) : (s.setPending v).scanner = s.scanner := rfl
@[simp] theorem State.setPending_zones (s : State) (v : List Instr) : (s.setPending v).zones = s.zones := rfl
@[simp] theorem State.setPending_ramp (s : State) (v : List Instr) : (s.setPending v).ramp = s.ramp := rfl
@[simp] theorem State.setPending_gas (s : State) (v : List Instr) : (s.setPending v).gas = s.gas := rfl
@[simp] theorem State.setPending_loader (s : State) (v : List Instr) : (s.setPending v).loader = s.loader := rfl
@[simp] theorem State.setPending_exec (s : State) (v : List Instr) : (s.setPending v).exec = s.exec := rfl
@[simp] theorem State.setPending_sup (s : State) (v : List Instr) : (s.setPending v).sup = s.sup := rfl
@[simp] theorem State.setPending_host (s : State) (v : List Instr) : (s.setPending v).host = s.host := rfl
@[simp] theorem State.setPending_freeIndex (s : State) (v : List Instr) : (s.setPending v).freeIndex = s.freeIndex := rfl
@[simp] theorem State.setPending_pending (s : State) (v : List Instr) : (s.setPending v).pending = v := rfl
@[simp] theorem State.setPending_setPending (s : State) (v w : List Instr) : (s.setPending v).setPending w = s.setPending w := rfl

end Sys2Proof.Machine
end

