-- ==== Sys2Proof/Laws/RoundTimer.lean ====
section
/-! SUPPORT. What one half-cycle boundary does, by where it falls: the firing it decides, a boundary inside the window, and the
position it raises. -/

namespace Sys2Proof.Machine

/-- N is 100 or 120. -/
theorem State.n_cases (s : State) : s.n = 100 ∨ s.n = 120 := by
  unfold State.n Store.halfCycles
  split <;> simp

/-- 3h is 480000 or 400000 crystal periods. -/
theorem State.threeH_cases (s : State) : s.threeH = 480000 ∨ s.threeH = 400000 := by
  unfold State.threeH
  split <;> simp

/-- The firing decision of one zone at the count reached. -/
theorem State.fireZone_countUp (s : State) (z : ZoneId) :
    s.countUp.fireZone (s.timer.windowCount + 2) z (s.zones.zones.get z)
      = { s.zones.zones.get z with
          gate := s.firesNext z
          fired := if s.firesNext z then (s.zones.zones.get z).fired + 1 else (s.zones.zones.get z).fired } := by
  unfold State.fireZone State.firesNext firesAt patternExtra State.contactorClosed
  have h1 : s.countUp.n = s.n := rfl
  have h2 : s.countUp.store = s.store := rfl
  have h3 : s.countUp.zones = s.zones := rfl
  have h4 : s.countUp.sup = s.sup := rfl
  rw [h1, h2, h3, h4]
  simp only [Bool.and_eq_true, decide_eq_true_eq, Bool.not_eq_true']
  split
  · rename_i h
    rw [if_pos (by tauto)]
    congr
    simp only [Bool.true_eq, decide_eq_true_eq]
    tauto
  · rename_i h
    rw [if_neg (by tauto)]
    congr
    symm
    simp only [decide_eq_false_iff_not]
    tauto

/-- Counting a boundary and deciding its firing is the plain half-cycle. -/
theorem State.fire_countUp (s : State) : s.countUp.fire = s.nextHalfCycle := by
  have hz : s.countUp.fire.zones = s.zonesFired := by
    simp only [State.fire, State.mapZones, State.setZones, State.zonesFired]
    have : (fun z => s.countUp.fireZone (s.countUp.timer.windowCount + 1) z (s.countUp.zones.zones.get z))
        = fun z => { s.zones.zones.get z with
          gate := s.firesNext z
          fired := if s.firesNext z then (s.zones.zones.get z).fired + 1 else (s.zones.zones.get z).fired } := by
      funext z
      exact s.fireZone_countUp z
    rw [this]
    rfl
  have h2 : s.countUp.fire = { s.countUp with zones := s.countUp.fire.zones } := rfl
  rw [h2, hz]
  rfl

/-- Firing changes the zones alone. -/
theorem State.fire_eq (s : State) : s.fire = { s with zones := s.fire.zones } := rfl

/-- Firing sees nothing of a state but its zones, its count, its store and whether it is UNCONFIGURED. -/
theorem State.fire_zones_congr {s t : State} (hz : t.zones = s.zones)
    (hc : t.timer.windowCount = s.timer.windowCount) (hs : t.sup.store = s.sup.store)
    (hu : t.sup.station = .unconfigured ↔ s.sup.station = .unconfigured) : t.fire.zones = s.fire.zones := by
  have hd : decide (t.sup.station ≠ .unconfigured) = decide (s.sup.station ≠ .unconfigured) :=
    decide_eq_decide.2 (not_congr hu)
  have hn : t.n = s.n := by simp only [State.n, State.store, hs]
  have hcc : ∀ z, t.contactorClosed z = s.contactorClosed z := by
    intro z
    simp only [State.contactorClosed, State.store, hz, hs, hd]
  have hf : ∀ z, t.fireZone (t.timer.windowCount + 1) z (t.zones.zones.get z)
      = s.fireZone (s.timer.windowCount + 1) z (s.zones.zones.get z) := by
    intro z
    unfold State.fireZone
    rw [hn, hc, hz]
    by_cases h : firesAt s.n (s.zones.zones.get z).dutyRunning (s.timer.windowCount + 1) = true
        ∧ (s.zones.zones.get z).firingStopped = false ∧ s.contactorClosed z = true
    · rw [if_pos h, if_pos (by rw [hcc]; exact h)]
    · rw [if_neg h, if_neg (by rw [hcc]; exact h)]
  unfold State.fire State.mapZones State.setZones
  simp only [funext hf]
  rw [hz]

/-- A boundary that does not end the window raises the position it reaches, and decides the firing. -/
theorem State.boundary_inner {s : State} (hp : s.timer.timer = .phased) (h : s.timer.windowCount + 1 < s.endCount) :
    s.boundary
      = if s.countUp.raisePosition.timer.timer = .phased then s.countUp.raisePosition.fire else s.countUp.raisePosition := by
  have hend : ¬ s.endCount ≤ s.countUp.timer.windowCount := by
    show ¬ s.endCount ≤ s.timer.windowCount + 1
    omega
  have e : s.boundaryWork = s.countUp.raisePosition := by
    simp only [State.boundaryWork, hp, State.phasedBoundary, hend, if_false]
  unfold State.boundary
  rw [e]

/-- A count that is no named position raises none. -/
theorem State.raisePosition_none {s : State}
    (h : ∀ p ∈ [4 + 10 * s.bank.ownNumber.val, s.n - 20, s.n - 16, s.n - 10], s.timer.windowCount ≠ p) :
    s.raisePosition = s := by
  simp only [List.mem_cons, List.not_mem_nil, or_false, forall_eq_or_imp, forall_eq] at h
  unfold State.raisePosition
  simp only
  rw [if_neg (show ¬ s.timer.windowCount = s.slot from h.1), if_neg (show ¬ s.timer.windowCount = s.seqPos from h.2.1),
    if_neg (show ¬ s.timer.windowCount = s.sharePos from h.2.2.1),
    if_neg (show ¬ s.timer.windowCount = s.ctlPos from h.2.2.2)]

/-- A boundary that neither ends the window nor reaches a named position is a plain half-cycle. -/
theorem State.boundary_plain {s : State} (hp : s.timer.timer = .phased) (h : s.timer.windowCount + 1 < s.endCount)
    (hn : ∀ p ∈ [4 + 10 * s.bank.ownNumber.val, s.n - 20, s.n - 16, s.n - 10], s.timer.windowCount + 1 ≠ p) :
    s.boundary = s.nextHalfCycle := by
  rw [State.boundary_inner hp h, State.raisePosition_none (s := s.countUp) hn, if_pos (show s.countUp.timer.timer = .phased from hp),
    State.fire_countUp]

/-- The position a boundary reaches is due. -/
theorem State.positionDue_of_reaches {s : State} {p : Nat} (h : s.NextReaches p) : s.positionDue p = true := by
  obtain ⟨h1, h2, h3⟩ := h
  simp [State.positionDue, h1, h2, h3]

/-- A boundary inside the window whose position work leaves the zones be: that work, with the half-cycle fired. -/
theorem State.boundary_position {s u : State} (hp : s.timer.timer = .phased)
    (h : s.timer.windowCount + 1 < s.endCount) (hu : s.countUp.raisePosition = u) (h1 : u.timer.timer = .phased)
    (hz : u.zones = s.zones) (hc : u.timer.windowCount = s.timer.windowCount + 1) (hs : u.sup.store = s.sup.store)
    (hst : u.sup.station = .unconfigured ↔ s.sup.station = .unconfigured) :
    s.boundary = { u with zones := s.zonesFired } := by
  rw [State.boundary_inner hp h, hu, if_pos h1, State.fire_eq, State.fire_zones_congr (s := s.countUp) hz hc hs hst,
    State.fire_countUp]
  rfl

/-- The four named positions of a window are raised at their own counts, which never coincide. -/
theorem State.raisePosition_cases (s : State) :
    (s.timer.windowCount = s.slot → s.raisePosition = s.slotWork)
      ∧ (s.timer.windowCount = s.n - 20 → s.raisePosition = s.sequenceWork)
      ∧ (s.timer.windowCount = s.n - 16 → s.raisePosition = s.shareWork)
      ∧ (s.timer.windowCount = s.n - 10 → s.raisePosition = s.controlWork) := by
  have hn := s.n_cases
  have hs := s.bank.ownNumber.isLt
  unfold State.raisePosition State.slot slotOf State.seqPos State.sharePos State.ctlPos
  simp only
  refine ⟨fun h => ?_, fun h => ?_, fun h => ?_, fun h => ?_⟩
  · rw [if_pos h]
  · rw [if_neg (by omega), if_pos h]
  · rw [if_neg (by omega), if_neg (by omega), if_pos h]
  · rw [if_neg (by omega), if_neg (by omega), if_neg (by omega), if_pos h]

end Sys2Proof.Machine
end

