-- ==== Sys2Proof/Laws/Supervisor.lean ====
section
/-! SUPPORT. What raising a reason, moving the station state and changing the stop-cause set can do, once for every block that
calls them. -/

namespace Sys2Proof.Machine

/-! ### Raising a reason -/

@[simp] theorem State.raise_timer (s : State) (r : BitVec 16) : (s.raise r).timer = s.timer := rfl
@[simp] theorem State.raise_bank (s : State) (r : BitVec 16) : (s.raise r).bank = s.bank := rfl
@[simp] theorem State.raise_share (s : State) (r : BitVec 16) : (s.raise r).share = s.share := rfl
@[simp] theorem State.raise_scanner (s : State) (r : BitVec 16) : (s.raise r).scanner = s.scanner := rfl
@[simp] theorem State.raise_zones (s : State) (r : BitVec 16) : (s.raise r).zones = s.zones := rfl
@[simp] theorem State.raise_ramp (s : State) (r : BitVec 16) : (s.raise r).ramp = s.ramp := rfl
@[simp] theorem State.raise_gas (s : State) (r : BitVec 16) : (s.raise r).gas = s.gas := rfl
@[simp] theorem State.raise_loader (s : State) (r : BitVec 16) : (s.raise r).loader = s.loader := rfl
@[simp] theorem State.raise_exec (s : State) (r : BitVec 16) : (s.raise r).exec = s.exec := rfl
@[simp] theorem State.raise_sup (s : State) (r : BitVec 16) : (s.raise r).sup = s.sup := rfl
@[simp] theorem State.raise_freeIndex (s : State) (r : BitVec 16) : (s.raise r).freeIndex = s.freeIndex := rfl
@[simp] theorem State.raise_pending (s : State) (r : BitVec 16) : (s.raise r).pending = s.pending := rfl

/-- A raised reason joins the reason set, and nothing else of the host port changes. -/
@[simp] theorem State.raise_host (s : State) (r : BitVec 16) :
    (s.raise r).host = { s.host with reasons := s.host.reasons ||| r } := rfl

/-- Raising on a condition raises or does nothing. -/
theorem State.raiseIf_eq (s : State) (c : Bool) (r : BitVec 16) :
    s.raiseIf c r = { s with host := { s.host with reasons := s.host.reasons ||| (if c then r else 0) } } := by
  cases c
  · simp [State.raiseIf]
  · rfl

@[simp] theorem State.raiseIf_timer (s : State) (c : Bool) (r : BitVec 16) : (s.raiseIf c r).timer = s.timer := by
  cases c <;> rfl
@[simp] theorem State.raiseIf_bank (s : State) (c : Bool) (r : BitVec 16) : (s.raiseIf c r).bank = s.bank := by
  cases c <;> rfl
@[simp] theorem State.raiseIf_share (s : State) (c : Bool) (r : BitVec 16) : (s.raiseIf c r).share = s.share := by
  cases c <;> rfl
@[simp] theorem State.raiseIf_scanner (s : State) (c : Bool) (r : BitVec 16) : (s.raiseIf c r).scanner = s.scanner := by
  cases c <;> rfl
@[simp] theorem State.raiseIf_zones (s : State) (c : Bool) (r : BitVec 16) : (s.raiseIf c r).zones = s.zones := by
  cases c <;> rfl
@[simp] theorem State.raiseIf_ramp (s : State) (c : Bool) (r : BitVec 16) : (s.raiseIf c r).ramp = s.ramp := by
  cases c <;> rfl
@[simp] theorem State.raiseIf_gas (s : State) (c : Bool) (r : BitVec 16) : (s.raiseIf c r).gas = s.gas := by
  cases c <;> rfl
@[simp] theorem State.raiseIf_loader (s : State) (c : Bool) (r : BitVec 16) : (s.raiseIf c r).loader = s.loader := by
  cases c <;> rfl
@[simp] theorem State.raiseIf_exec (s : State) (c : Bool) (r : BitVec 16) : (s.raiseIf c r).exec = s.exec := by
  cases c <;> rfl
@[simp] theorem State.raiseIf_sup (s : State) (c : Bool) (r : BitVec 16) : (s.raiseIf c r).sup = s.sup := by
  cases c <;> rfl
@[simp] theorem State.raiseIf_freeIndex (s : State) (c : Bool) (r : BitVec 16) : (s.raiseIf c r).freeIndex = s.freeIndex := by
  cases c <;> rfl
@[simp] theorem State.raiseIf_pending (s : State) (c : Bool) (r : BitVec 16) : (s.raiseIf c r).pending = s.pending := by
  cases c <;> rfl

/-! ### Station state and stop causes -/

@[simp] theorem State.addCause_timer (s : State) (k : StopCause) : (s.addCause k).timer = s.timer := rfl
@[simp] theorem State.removeCause_timer (s : State) (k : StopCause) : (s.removeCause k).timer = s.timer := rfl
@[simp] theorem State.addCause_bank (s : State) (k : StopCause) : (s.addCause k).bank = s.bank := rfl
@[simp] theorem State.removeCause_bank (s : State) (k : StopCause) : (s.removeCause k).bank = s.bank := rfl
@[simp] theorem State.addCause_share (s : State) (k : StopCause) : (s.addCause k).share = s.share := rfl
@[simp] theorem State.removeCause_share (s : State) (k : StopCause) : (s.removeCause k).share = s.share := rfl
@[simp] theorem State.addCause_scanner (s : State) (k : StopCause) : (s.addCause k).scanner = s.scanner := rfl
@[simp] theorem State.removeCause_scanner (s : State) (k : StopCause) : (s.removeCause k).scanner = s.scanner := rfl
@[simp] theorem State.addCause_zones (s : State) (k : StopCause) : (s.addCause k).zones = s.zones := rfl
@[simp] theorem State.removeCause_zones (s : State) (k : StopCause) : (s.removeCause k).zones = s.zones := rfl
@[simp] theorem State.addCause_ramp (s : State) (k : StopCause) : (s.addCause k).ramp = s.ramp := rfl
@[simp] theorem State.removeCause_ramp (s : State) (k : StopCause) : (s.removeCause k).ramp = s.ramp := rfl
@[simp] theorem State.addCause_gas (s : State) (k : StopCause) : (s.addCause k).gas = s.gas := rfl
@[simp] theorem State.removeCause_gas (s : State) (k : StopCause) : (s.removeCause k).gas = s.gas := rfl
@[simp] theorem State.addCause_exec (s : State) (k : StopCause) : (s.addCause k).exec = s.exec := rfl
@[simp] theorem State.removeCause_exec (s : State) (k : StopCause) : (s.removeCause k).exec = s.exec := rfl
@[simp] theorem State.addCause_sup (s : State) (k : StopCause) : (s.addCause k).sup = s.sup := rfl
@[simp] theorem State.removeCause_sup (s : State) (k : StopCause) : (s.removeCause k).sup = s.sup := rfl
@[simp] theorem State.addCause_host (s : State) (k : StopCause) : (s.addCause k).host = s.host := rfl
@[simp] theorem State.removeCause_host (s : State) (k : StopCause) : (s.removeCause k).host = s.host := rfl
@[simp] theorem State.addCause_freeIndex (s : State) (k : StopCause) : (s.addCause k).freeIndex = s.freeIndex := rfl
@[simp] theorem State.removeCause_freeIndex (s : State) (k : StopCause) : (s.removeCause k).freeIndex = s.freeIndex := rfl
@[simp] theorem State.addCause_pending (s : State) (k : StopCause) : (s.addCause k).pending = s.pending := rfl
@[simp] theorem State.removeCause_pending (s : State) (k : StopCause) : (s.removeCause k).pending = s.pending := rfl

/-- Moving the station state changes the supervisor's state alone. -/
theorem State.setStation_eq (s : State) (st : StationState) :
    s.setStation st = { s with sup := { s.sup with station := st } } := rfl

/-- A report moves a RUNNING or IDLE station to HELD with HOLD as a stop cause, and does nothing to any other. -/
theorem State.report_eq (s : State) :
    s.report = if s.sup.station = .running ∨ s.sup.station = .idle then
        { s with
          sup := { s.sup with station := .held }
          loader := s.loader.addCause s.gas.established .hold }
      else s := rfl

@[simp] theorem State.report_timer (s : State) : s.report.timer = s.timer := by
  unfold State.report
  split <;> rfl
@[simp] theorem State.report_bank (s : State) : s.report.bank = s.bank := by
  unfold State.report
  split <;> rfl
@[simp] theorem State.report_share (s : State) : s.report.share = s.share := by
  unfold State.report
  split <;> rfl
@[simp] theorem State.report_scanner (s : State) : s.report.scanner = s.scanner := by
  unfold State.report
  split <;> rfl
@[simp] theorem State.report_zones (s : State) : s.report.zones = s.zones := by
  unfold State.report
  split <;> rfl
@[simp] theorem State.report_ramp (s : State) : s.report.ramp = s.ramp := by
  unfold State.report
  split <;> rfl
@[simp] theorem State.report_gas (s : State) : s.report.gas = s.gas := by
  unfold State.report
  split <;> rfl
@[simp] theorem State.report_exec (s : State) : s.report.exec = s.exec := by
  unfold State.report
  split <;> rfl
@[simp] theorem State.report_host (s : State) : s.report.host = s.host := by
  unfold State.report
  split <;> rfl
@[simp] theorem State.report_freeIndex (s : State) : s.report.freeIndex = s.freeIndex := by
  unfold State.report
  split <;> rfl
@[simp] theorem State.report_pending (s : State) : s.report.pending = s.pending := by
  unfold State.report
  split <;> rfl

/-- A report leaves the configuration store and the HALT level. -/
@[simp] theorem State.report_store (s : State) : s.report.sup.store = s.sup.store := by
  unfold State.report
  split <;> rfl

/-- No report makes or unmakes an UNCONFIGURED station. -/
theorem State.report_unconfigured (s : State) :
    s.report.sup.station = .unconfigured ↔ s.sup.station = .unconfigured := by
  unfold State.report
  split
  · rename_i h
    rcases h with h | h <;> simp [State.enterHeld, State.setStation, h]
  · rfl

end Sys2Proof.Machine
end

