-- ==== Sys2Proof/Laws/Executor.lean ====
section
/-! SUPPORT. What the work of the sequence, share and control positions leaves alone, and the window start with the positions
that a shortened window cuts off. -/

namespace Sys2Proof.Machine

/-- The executor's work reaches the tube's blocks, the reason set and the station state, and nothing else. -/
structure State.SameElsewhere (s t : State) : Prop where
  timer : t.timer = s.timer
  bank : t.bank = s.bank
  share : t.share = s.share
  scanner : t.scanner = s.scanner
  zones : t.zones = s.zones
  store : t.sup.store = s.sup.store
  haltAsserted : t.sup.haltAsserted = s.sup.haltAsserted
  joiningCount : t.sup.joiningCount = s.sup.joiningCount
  unconfigured : t.sup.station = .unconfigured ↔ s.sup.station = .unconfigured
  established : t.gas.established = s.gas.established
  pending : t.pending = s.pending

theorem State.SameElsewhere.rfl {s : State} : s.SameElsewhere s :=
  ⟨Eq.refl _, Eq.refl _, Eq.refl _, Eq.refl _, Eq.refl _, Eq.refl _, Eq.refl _, Eq.refl _, Iff.rfl, Eq.refl _, Eq.refl _⟩

theorem State.SameElsewhere.trans {s t u : State} (h : s.SameElsewhere t) (k : t.SameElsewhere u) : s.SameElsewhere u :=
  ⟨k.timer.trans h.timer, k.bank.trans h.bank, k.share.trans h.share, k.scanner.trans h.scanner, k.zones.trans h.zones,
    k.store.trans h.store, k.haltAsserted.trans h.haltAsserted, k.joiningCount.trans h.joiningCount,
    k.unconfigured.trans h.unconfigured, k.established.trans h.established, k.pending.trans h.pending⟩

/-! ### The executor's operations -/

theorem State.setRamp_same (s : State) (v : Ramp) : s.SameElsewhere (s.setRamp v) :=
  { (State.SameElsewhere.rfl : s.SameElsewhere s) with }

theorem State.setLoader_same (s : State) (v : Loader) : s.SameElsewhere (s.setLoader v) :=
  { (State.SameElsewhere.rfl : s.SameElsewhere s) with }

theorem State.setExec_same (s : State) (v : Executor) : s.SameElsewhere (s.setExec v) :=
  { (State.SameElsewhere.rfl : s.SameElsewhere s) with }

/-- The gas unit may change all but the curtain's state. -/
theorem State.setGas_same (s : State) (v : Gas) (h : v.established = s.gas.established) : s.SameElsewhere (s.setGas v) :=
  { (State.SameElsewhere.rfl : s.SameElsewhere s) with established := h }

theorem State.raise_same (s : State) (r : BitVec 16) : s.SameElsewhere (s.raise r) :=
  { (State.SameElsewhere.rfl : s.SameElsewhere s) with }

theorem Gas.amend_established (a : AmendFields) (g : Gas) : (g.amend a).established = g.established := by
  unfold Gas.amend
  by_cases h : g.part.current = true
  · rw [if_pos h]
  · rw [if_neg h]

/-- Between two configured stations the station state may change. -/
theorem State.setStation_same {s : State} {st : StationState} (h : s.sup.station ≠ .unconfigured) (k : st ≠ .unconfigured) :
    s.SameElsewhere (s.setStation st) :=
  { (State.SameElsewhere.rfl : s.SameElsewhere s) with unconfigured := ⟨fun e => absurd e k, fun e => absurd e h⟩ }

theorem State.enterHeld_same {s : State} (h : s.sup.station ≠ .unconfigured) : s.SameElsewhere s.enterHeld :=
  { (State.SameElsewhere.rfl : s.SameElsewhere s) with unconfigured := ⟨fun e => (nomatch e), fun e => absurd e h⟩ }

theorem State.finishUrgent_same (s : State) (r : UrgentResult) : s.SameElsewhere (s.finishUrgent r) :=
  { (State.SameElsewhere.rfl : s.SameElsewhere s) with }

theorem State.raiseIf_same (s : State) (c : Bool) (r : BitVec 16) : s.SameElsewhere (s.raiseIf c r) := by
  constructor <;> simp

theorem State.applyShadow_same (s : State) : s.SameElsewhere s.applyShadow := by
  unfold State.applyShadow
  split
  · exact s.setExec_same _
  · exact (((s.setExec_same _).trans (State.setRamp_same _ _)).trans
      (State.setGas_same _ _ (Gas.amend_established _ _))).trans (State.setLoader_same _ _)

theorem State.resume_same {s : State} (h : s.sup.station ≠ .unconfigured) : s.SameElsewhere s.resume := by
  refine State.SameElsewhere.trans (t := s.setStation (if s.exec.current.isSome then .running else .idle))
    (State.setStation_same h (by split <;> decide)) ?_
  unfold State.resume
  generalize s.setStation (if s.exec.current.isSome then .running else .idle) = u
  show u.SameElsewhere ((if u.loader.state = .stalled then
      u.setLoader { u.loader with state := .atRest, dwellTotal := 0 } else u).removeCause .hold)
  by_cases k : u.loader.state = .stalled
  · rw [if_pos k]
    exact (State.setLoader_same _ _).trans (State.setLoader_same _ _)
  · rw [if_neg k]
    exact State.setLoader_same _ _

theorem State.takeUrgent_same (s : State) : s.SameElsewhere s.takeUrgent := by
  unfold State.takeUrgent
  split
  · exact .rfl
  · unfold State.takeSkip
    split
    · split
      · exact ((s.setExec_same _).trans (State.setLoader_same _ _)).trans (State.finishUrgent_same _ _)
      · exact s.finishUrgent_same _
    · exact s.finishUrgent_same _
  · unfold State.takeHold
    split
    · rename_i h
      exact (State.enterHeld_same (by rcases h with h | h <;> simp [h])).trans (State.finishUrgent_same _ _)
    · exact s.finishUrgent_same _
  · unfold State.takeResume
    split
    · rename_i h
      exact (State.resume_same (by simp [h.1])).trans (State.finishUrgent_same _ _)
    · exact s.finishUrgent_same _
  · exact (s.setExec_same _).trans (State.finishUrgent_same _ _)

theorem State.endSegment_same (s : State) (c : CurrentSegment) (r : SegmentResult) : s.SameElsewhere (s.endSegment c r) := by
  refine State.SameElsewhere.trans (s.setExec_same { s.exec with outcomes := (s.outcomeOf c r :: s.exec.outcomes).take 8 }) ?_
  refine State.SameElsewhere.trans (State.raise_same _ reasonSegmentDone) ?_
  refine State.SameElsewhere.trans (State.setRamp_same _ s.ramp.untargetAll) ?_
  refine State.SameElsewhere.trans (State.setGas_same _ s.gas.leavePart (Eq.refl _)) ?_
  refine State.SameElsewhere.trans (State.setLoader_same _ s.loader.leavePart) ?_
  exact State.setExec_same _ _

theorem State.takeThermal_same (s : State) (h : Option ThermalSpec) : s.SameElsewhere (s.takeThermal h) := by
  unfold State.takeThermal
  cases h <;> exact s.setRamp_same _

theorem State.takeGas_same (s : State) (g : Option GasSpec) : s.SameElsewhere (s.takeGas g) := by
  unfold State.takeGas
  cases g <;> exact s.setGas_same _ rfl

theorem State.startHead_same (s : State) (g : Segment) (rest : List Segment) : s.SameElsewhere (s.startHead g rest) := by
  unfold State.startHead
  exact ((((s.setExec_same _).trans (State.takeThermal_same _ _)).trans (State.takeGas_same _ _)).trans
    (State.setLoader_same _ _)).trans (State.raiseIf_same _ _ _)

theorem State.afterEnd_same (s : State) : s.SameElsewhere s.afterEnd := by
  unfold State.afterEnd
  split
  · rename_i h
    split
    · exact (State.setStation_same (by simp [h]) (by decide)).trans (State.raise_same _ _)
    · exact s.startHead_same _ _
  · exact .rfl

theorem State.judgeSegment_same (s : State) : s.SameElsewhere s.judgeSegment := by
  unfold State.judgeSegment
  split
  · split
    · split
      · exact (s.endSegment_same _ _).trans (State.afterEnd_same _)
      · exact .rfl
    · split
      · exact (s.endSegment_same _ _).trans (State.afterEnd_same _)
      · exact .rfl
  · split
    · rename_i h
      split
      · exact .rfl
      · exact (State.setStation_same (by simp [h]) (by decide)).trans (State.startHead_same _ _ _)
    · exact .rfl

theorem State.executorSequence_same (s : State) : s.SameElsewhere s.executorSequence :=
  (s.applyShadow_same.trans (State.takeUrgent_same _)).trans (State.judgeSegment_same _)

theorem State.endJoining_same (s : State) : s.SameElsewhere s.endJoining := by
  unfold State.endJoining
  split
  · rename_i h
    split
    · exact State.enterHeld_same (by simp [h.1])
    · exact State.setStation_same (by simp [h.1]) (by decide)
  · exact .rfl

/-- All work of the sequence position leaves timer, bank link, share unit, scanner, zones and configuration. -/
theorem State.sequenceWork_same (s : State) : s.SameElsewhere s.sequenceWork := by
  unfold State.sequenceWork
  split
  · have ha := s.endJoining_same.trans (State.executorSequence_same _)
    have hb := s.executorSequence_same.trans (State.endJoining_same _)
    have key : ∀ t : State, s.SameElsewhere t → s.SameElsewhere (t.setFreeIndex (s.freeIndex + 1)) := fun t h =>
      ⟨h.timer, h.bank, h.share, h.scanner, h.zones, h.store, h.haltAsserted, h.joiningCount, h.unconfigured, h.established,
        h.pending⟩
    simp only
    refine key _ ?_
    split
    · exact ha
    · split
      · exact ha
      · exact hb
  · exact s.executorSequence_same

/-! ### The share and control positions -/

/-- The work of the share position reaches the bank link, the share unit and the reason set. -/
theorem State.shareWork_eq (s : State) :
    s.shareWork = { s with bank := s.shareWork.bank, share := s.shareWork.share, host := s.shareWork.host } := by
  unfold State.shareWork State.shareUnitWork State.closeRound
  simp only [State.raiseIf_eq]
  split <;> rfl

/-- The work of the control position reaches the zones and the gas unit. -/
theorem State.controlWork_eq (s : State) :
    s.controlWork = { s with zones := s.controlWork.zones, gas := s.controlWork.gas } := rfl

/-! ### The positions and the window start -/

/-- The control position changes of the gas unit only the demands and the commanded flows. -/
theorem State.controlWork_gas (s : State) :
    s.controlWork.gas = { s.gas with
      required := s.controlWork.gas.required
      purgeDemand := s.controlWork.gas.purgeDemand
      nitrogenFirm := s.controlWork.gas.nitrogenFirm
      nitrogenExtra := s.controlWork.gas.nitrogenExtra
      next := s.controlWork.gas.next } := rfl

/-- Cutting off positions is the work of those whose count the window does not reach. -/
theorem State.cutOffPositions_eq (s : State) : s.countUp.cutOffPositions s.endCount = s.atWindowEnd := by
  have hq : s.countUp.sequenceWork.n = s.n := by
    simp only [State.n, State.store, s.countUp.sequenceWork_same.store]
    rfl
  have hs : ∀ t : State, t.shareWork.n = t.n := fun t => by
    rw [t.shareWork_eq]
    rfl
  have hc : s.countUp.n = s.n := rfl
  unfold State.cutOffPositions State.atWindowEnd State.doIf State.seqPos State.sharePos State.ctlPos
  simp only [decide_eq_true_eq, hc]
  by_cases h1 : s.endCount ≤ s.n - 20
  · simp only [h1, if_true, hq]
    by_cases h2 : s.endCount ≤ s.n - 16
    · simp only [h2, if_true, hs, hq]
      rfl
    · simp only [h2, if_false, hq]
      rfl
  · simp only [h1, if_false, hc]
    by_cases h2 : s.endCount ≤ s.n - 16
    · simp only [h2, if_true, hs, hc]
      rfl
    · simp only [h2, if_false, hc]
      rfl

/-- A boundary that ends a window: its window start, after the positions that the window cuts off. -/
theorem State.boundaryWork_ends {s : State} (h : s.EndsWindow) :
    s.boundaryWork = s.atWindowEnd.windowStartWork s.endCount := by
  obtain ⟨h1, h2⟩ := h
  have hle : s.endCount ≤ s.countUp.timer.windowCount := by
    show s.endCount ≤ s.timer.windowCount + 1
    omega
  simp only [State.boundaryWork, h1, State.phasedBoundary]
  rw [if_pos hle, s.cutOffPositions_eq]

/-- In a window whose positions have all been reached, nothing is cut off. -/
theorem State.atWindowEnd_full {s : State} (h : s.n - 10 < s.endCount) : s.atWindowEnd = s.counted := by
  unfold State.atWindowEnd
  rw [if_neg (show ¬ s.endCount ≤ s.n - 10 by omega), if_neg (show ¬ s.endCount ≤ s.n - 16 by omega),
    if_neg (show ¬ s.endCount ≤ s.n - 20 by omega)]

/-- What is cut off leaves the round timer as the boundary counted it. -/
@[simp] theorem State.atWindowEnd_timer (s : State) : s.atWindowEnd.timer = s.timer.counted := by
  have hs : ∀ t : State, t.shareWork.timer = t.timer := fun t => by
    rw [t.shareWork_eq]
  have hc : ∀ t : State, t.controlWork.timer = t.timer := fun _ => rfl
  unfold State.atWindowEnd
  simp only [apply_ite State.timer, hs, hc, s.counted.sequenceWork_same.timer, ite_self]
  rfl

end Sys2Proof.Machine
end

