-- ==== Sys2Proof/Laws/HostPort.lean ====
section
/-! SUPPORT. What the release of chip select that takes a command does, once for every command, and what the reply slot then
holds. -/

namespace Sys2Proof.Machine

/-- A command that is taken acts on the state whose transaction is over. -/
theorem State.command_of_taken {s : State} {code : Byte} (act : State → State) (h : s.Taken code) :
    s.command code act = act s.endTransaction := by
  obtain ⟨h1, h2, h3⟩ := h
  have : s.takes code = true := by
    unfold State.takes State.complete
    rw [h1, h2, h3]
    simp
  simp [State.command, this]

/-- Where no release takes the command, nothing happens. -/
theorem State.command_of_not_taken {s : State} {code : Byte} (act : State → State) (h : ¬ s.Taken code) :
    s.command code act = s := by
  have : s.takes code = false := by
    by_contra h'
    apply h
    simp only [State.takes, State.complete, Bool.not_eq_false, Bool.and_eq_true, decide_eq_true_eq] at h'
    exact ⟨h'.1.1, h'.1.2, h'.2⟩
  simp [State.command, this]

@[simp] theorem State.endTransaction_buffer (s : State) : s.endTransaction.host.buffer = s.host.buffer := rfl
@[simp] theorem State.endTransaction_timer (s : State) : s.endTransaction.timer = s.timer := rfl
@[simp] theorem State.endTransaction_bank (s : State) : s.endTransaction.bank = s.bank := rfl
@[simp] theorem State.endTransaction_share (s : State) : s.endTransaction.share = s.share := rfl
@[simp] theorem State.endTransaction_scanner (s : State) : s.endTransaction.scanner = s.scanner := rfl
@[simp] theorem State.endTransaction_zones (s : State) : s.endTransaction.zones = s.zones := rfl
@[simp] theorem State.endTransaction_ramp (s : State) : s.endTransaction.ramp = s.ramp := rfl
@[simp] theorem State.endTransaction_gas (s : State) : s.endTransaction.gas = s.gas := rfl
@[simp] theorem State.endTransaction_loader (s : State) : s.endTransaction.loader = s.loader := rfl
@[simp] theorem State.endTransaction_exec (s : State) : s.endTransaction.exec = s.exec := rfl
@[simp] theorem State.endTransaction_sup (s : State) : s.endTransaction.sup = s.sup := rfl
@[simp] theorem State.endTransaction_store (s : State) : s.endTransaction.store = s.store := rfl
@[simp] theorem State.endTransaction_pending (s : State) : s.endTransaction.pending = s.pending := rfl
@[simp] theorem State.endTransaction_reasons (s : State) : s.endTransaction.host.reasons = s.host.reasons := rfl

/-- A reply at the end of a transaction is the answer of the command in the buffer. -/
theorem State.reply_endTransaction {s : State} {code : Byte} (h : s.host.buffer.getD 0 0 = code) (r : ResultCode)
    (data : List Byte) : s.endTransaction.reply r data = s.answered code r data := by
  subst h
  rfl

/-- A state with the transaction over replies with the answer of the same state as it was before the release. -/
theorem State.reply_of_host {s t : State} {code : Byte} (h : s.host.buffer.getD 0 0 = code) (r : ResultCode)
    (data : List Byte) (ht : t.host = s.endTransaction.host) :
    t.reply r data = ({ t with host := s.host } : State).answered code r data := by
  subst h
  simp only [State.reply, State.replyWith, State.answered, HostPort.answered, State.setHost, ht]
  rfl

/-- What a configuration command does: the store is replaced and echoed in UNCONFIGURED, and nothing changes elsewhere. -/
theorem State.configure_endTransaction {s : State} {code : Byte} (h : s.host.buffer.getD 0 0 = code) (r : ResultCode)
    (c : Store) (echo : List Byte) :
    s.endTransaction.configure r c echo
      = if s.sup.station = .unconfigured then
          ({ s with sup := { s.sup with store := c } } : State).answered code r echo
        else s.answered code .badState [] := by
  subst h
  by_cases hs : s.sup.station = .unconfigured <;> simp only [State.configure, State.endTransaction_sup, hs, if_true, if_false]
  · simp only [State.setStore, State.setSup, State.reply, State.replyWith, State.answered, HostPort.answered,
      State.setHost, State.endTransaction, hs]
  · rfl

/-- A reply changes nothing but the reply slot. -/
theorem State.reply_frame (s : State) (r : ResultCode) (data : List Byte) :
    s.reply r data = { s with host := { s.host with
      reply := ⟨r, s.host.buffer.getD 0 0, s.sup.station, s.host.reasons, data⟩ } } := rfl

/-- Every command of the host leaves the queue of commands alone, as long as its own act does. -/
theorem State.command_pending {s : State} {code : Byte} {act : State → State}
    (h : ∀ u : State, (act u).pending = u.pending) : (s.command code act).pending = s.pending := by
  unfold State.command
  split
  · rw [h]
    rfl
  · rfl

end Sys2Proof.Machine
end

