-- ==== Sys2Proof/Laws/Loader.lean ====
section
/-! SUPPORT. What each operation of the boat loader can do: which stop causes it leaves, what it keeps, and when it begins a
motion. -/

namespace Sys2Proof.Machine

/-! ### The stop-cause set -/

@[simp] theorem StopCauses.has_put (c : StopCauses) (k : StopCause) (v : Bool) : (c.put k v).has k = v := by
  cases k <;> rfl

/-- Putting one cause leaves the others. -/
theorem StopCauses.has_put_ne (c : StopCauses) {j k : StopCause} (v : Bool) (h : j ≠ k) :
    (c.put k v).has j = c.has j := by
  cases j <;> cases k <;> first | rfl | exact absurd rfl h

/-- The set is empty when it holds no cause. -/
theorem StopCauses.isEmpty_iff (c : StopCauses) : c.isEmpty = true ↔ c = ⟨false, false, false, false, false⟩ := by
  obtain ⟨a, b, d, e, f⟩ := c
  cases a <;> cases b <;> cases d <;> cases e <;> cases f <;> simp [StopCauses.isEmpty]

/-- A set with a cause in it is not empty. -/
theorem StopCauses.not_isEmpty_of_has {c : StopCauses} {k : StopCause} (h : c.has k = true) : c.isEmpty = false := by
  cases k <;> simp_all [StopCauses.has, StopCauses.isEmpty]

/-! ### Motion starts and stops -/

/-- Every case of a motion start. -/
theorem Loader.motionStart_cases (e : Bool) (l : Loader) :
    l.motionStart e = l
      ∨ (l.state = .atRest ∧ l.position = some l.part.target
          ∧ l.motionStart e = { l with part := { l.part with complete := true } })
      ∨ (e = false ∧ l.state = .atRest ∧ l.motionStart e = { l with state := .waitCurtain })
      ∨ (e = true ∧ l.state = .atRest ∧ l.position ≠ some l.part.target
          ∧ l.motionStart e = ({ l with state := .waitCurtain } : Loader).beginMotion) := by
  unfold Loader.motionStart
  split
  · rename_i h
    split
    · rename_i hp
      exact .inr (.inl ⟨h.1, hp, rfl⟩)
    · rename_i hp
      cases e
      · exact .inr (.inr (.inl ⟨rfl, h.1, rfl⟩))
      · exact .inr (.inr (.inr ⟨rfl, h.1, hp, rfl⟩))
  · exact .inl rfl

/-- A motion start under a stop cause does nothing. -/
theorem Loader.motionStart_of_cause (e : Bool) {l : Loader} (h : l.causes.isEmpty = false) : l.motionStart e = l := by
  unfold Loader.motionStart
  rw [if_neg]
  rw [h]
  simp

/-- A stop that ends under a stop cause ends in AT_REST, or in DWELL while DWELL is a cause. -/
theorem Loader.endStop_of_cause (e : Bool) {l : Loader} (h : l.causes.isEmpty = false) :
    l.endStop e = { l with
      speed := 0
      braking := false
      approach := none
      state := if l.causes.dwell then .dwell else .atRest } := by
  unfold Loader.endStop
  simp only [h, Bool.false_eq_true, if_false]
  split <;> simp_all

/-- A stop cause that enters stands in the set, and the others stay. -/
theorem Loader.addCause_causes (e : Bool) (k : StopCause) (l : Loader) :
    (l.addCause e k).causes = if l.causes.has k then l.causes else l.causes.put k true := by
  have hne : (l.causes.put k true).isEmpty = false := StopCauses.not_isEmpty_of_has (k := k) (by simp)
  unfold Loader.addCause
  split
  · rfl
  · simp only
    split <;> (try rfl) <;>
    · split
      · rw [Loader.endStop_of_cause e (by exact hne)]
      · rfl

/-- A cause that enters begins no motion, and leaves position, part and dwell total. -/
theorem Loader.addCause_keeps (e : Bool) (k : StopCause) (l : Loader) :
    (l.addCause e k).position = l.position ∧ (l.addCause e k).part = l.part
      ∧ (l.addCause e k).dwellTotal = l.dwellTotal ∧ ((l.addCause e k).inMotion = true → l.inMotion = true) := by
  have hne : (l.causes.put k true).isEmpty = false := StopCauses.not_isEmpty_of_has (k := k) (by simp)
  unfold Loader.addCause
  split
  · exact ⟨rfl, rfl, rfl, id⟩
  · cases hs : l.state <;> simp only
    case homing | moving =>
      split
      · rw [Loader.endStop_of_cause e (by exact hne)]
        simp [Loader.inMotion, hs]
      · simp [Loader.inMotion, hs]
    all_goals simp [Loader.inMotion, hs]

/-! ### The steps of a tick -/

/-- A tick at a speed of at most 100 issues one step at the pattern positions of that speed, and none at the others. -/
theorem Loader.tick_eq (stroke : Nat) {l : Loader} (h0 : 0 < l.speed) (h100 : l.speed ≤ 100)
    (hst : l.state = .homing ∨ l.state = .moving ∨ l.state = .stopping) :
    l.tick stroke
      = Loader.issueSteps stroke
          (if patternExtra l.speed (if l.pattern < 100 then l.pattern + 1 else 1) 100 then 1 else 0)
          ({ l with stepOut := false, pattern := if l.pattern < 100 then l.pattern + 1 else 1 }, false) := by
  have hj : 1 ≤ (if l.pattern < 100 then l.pattern + 1 else 1) := by
    split <;> omega
  generalize hjj : (if l.pattern < 100 then l.pattern + 1 else 1) = j at hj ⊢
  unfold Loader.tick
  simp only
  rw [if_pos ⟨h0, hst⟩, hjj]
  have : l.speed / 100 + (if patternExtra (l.speed % 100) j 100 = true then 1 else 0)
      = if patternExtra l.speed j 100 = true then 1 else 0 := by
    by_cases hv : l.speed = 100
    · have : patternExtra l.speed j 100 = true := by
        simp only [patternExtra, decide_eq_true_eq, hv]
        omega
      rw [if_pos this, hv]
      simp [patternExtra]
    · have hv2 : l.speed < 100 := by omega
      have a1 : l.speed / 100 = 0 := by omega
      have a2 : l.speed % 100 = l.speed := by omega
      rw [a1, a2, Nat.zero_add]
  exact congrArg (fun k => Loader.issueSteps stroke k _) this

/-- A boat at rest lets the tick pass. -/
theorem Loader.tick_rest (stroke : Nat) {l : Loader}
    (h : l.speed = 0 ∨ (l.state ≠ .homing ∧ l.state ≠ .moving ∧ l.state ≠ .stopping)) :
    l.tick stroke = ({ l with stepOut := false }, false) := by
  unfold Loader.tick
  simp only
  rw [if_neg]
  rintro ⟨a, b⟩
  rcases h with h | h
  · omega
  · tauto

/-- The speed moves toward its aim and not past it. -/
theorem moveToward_le (a aim v hi : Nat) (h1 : aim ≤ hi) (h2 : v ≤ hi) : moveToward a aim v ≤ hi := by
  unfold moveToward
  split <;> (try split) <;> omega

end Sys2Proof.Machine
end

