-- ==== Sys2Proof/WellFormed.lean ====
section
/-! DEFINITION. Which commands can be presented to the part at all. The meanings are total and do not read these
checks: they say what a sender can produce, for statements and tests. -/

namespace Sys2Proof

/-- A classical CAN data frame holds at most 8 bytes; a remote frame holds none (section 2.2). -/
def CanFrame.wf (f : CanFrame) : Bool :=
  decide (f.data.length ≤ 8) && (!f.remote || f.data.isEmpty)

/-- The identifier of a LEAVE, 0x650 to 0x657 (R24). -/
def CanFrame.isLeaveId (f : CanFrame) : Bool :=
  decide (0x650 ≤ f.identifier.toNat) && decide (f.identifier.toNat ≤ 0x657)

/-- Well-formedness of a command.
* A zero-cross edge comes at most 3h at 50 Hz after the last boundary, 480000 crystal periods: later MAINS_LOST has
  been entered (R5) and boundaries are counted every h (R6).
* A frame has the length of a CAN frame, and the row that presents it fits its identifier (R24).
* A conversion gives a value of 16 bits with sign, wide enough for every range of chapter 4. -/
def Instr.wf : Instr → Bool
  | .zeroCrossEdge e => decide (e ≤ 480000)
  | .announceArrival f => f.wf && !f.isLeaveId
  | .leaveArrival f => f.wf && f.isLeaveId
  | .conversionComplete m => decide (-32768 ≤ m) && decide (m ≤ 32767)
  | _ => true

end Sys2Proof
end

