-- ==== Sys2Proof/Tests/Slice0.lean ====
section
/-! SUPPORT. Tests: the WellFormed smoke, witnesses that the hypotheses of the statements can be met together, and small
tests of one step each, whose expected figures come from the manual's worked examples and tables or are worked by hand
from its rules. -/

namespace Sys2Proof.Tests

open Sys2Proof.Machine

/-! ### Small states -/

/-- The state a step answers. -/
def after (o : Host.Outcome State Fault Refusal) : State :=
  match o with
  | .next t => t
  | .fault _ => State.reset
  | .refused _ => State.reset

/-- A zone of the tests, in use, with the figures of Z3 of the example of section 5.3. -/
def zone : ZoneConfig := ⟨true, 180, 40, 10, 12000, 9500, 6000, 9000, 120⟩

/-- A store that START accepts: a bank of four at 50 Hz, limit 1200 and header 150, five zones in use. -/
def conf : Store := ⟨⟨1200, 150, 4, 0, 5⟩, PerZone.all zone, ⟨40, 30, 20⟩, ⟨1200, 50, 10, 20, 30⟩, PerEight.all none⟩

/-- A configured part in a station state, its timer STOPPED. -/
def station (st : StationState) : State := { State.reset with sup := ⟨st, 2, conf, false⟩ }

/-- A part in a station state, PHASED at a window count. -/
def phased (st : StationState) (count : Nat) : State :=
  { station st with timer := { RoundTimer.reset with timer := .phased, windowCount := count, boundarySeen := true } }

/-- A part LISTENING at a window count. -/
def listening (count : Nat) : State :=
  { station .joining with
    timer := { RoundTimer.reset with timer := .listening, windowCount := count, boundarySeen := true } }

/-- A complete transaction with these bytes, the others 0, stands in the command buffer. -/
def withCommand (s : State) (b : List Byte) : State :=
  { s with host := { s.host with transaction := .receiving, byteCount := 32, buffer := (b ++ List.replicate 32 0).take 32 } }

/-- The transaction state and the byte count are these. -/
def inTransaction (t : TransactionState) (count : Nat) : State :=
  { State.reset with host := { HostPort.reset with transaction := t, byteCount := count } }

/-- One zone's control state. -/
def setZone (s : State) (z : ZoneId) (v : ZoneState) : State :=
  { s with zones := { s.zones with zones := s.zones.zones.set z v } }

/-- A part whose mains is lost. -/
def darkened (s : State) : State := { s with timer := { s.timer with mains := .lost } }

/-- A loader record of the tests, at a position. -/
def boat (st : LoaderState) (p : Option Nat) (v : Nat) (d : Direction) (target : Nat) : Loader :=
  { Loader.reset with
    position := p, speed := v, direction := d, state := st, part := ⟨true, target, 40, 80, 3, false⟩ }

/-- A part with a loader record. -/
def withBoat (s : State) (l : Loader) : State := { s with loader := l }

/-- A segment with its three parts. -/
def segment : Segment :=
  ⟨21, some ⟨⟨none, some 8010, some 8010, none, none⟩, 60, 0⟩, some ⟨40, 3⟩, some ⟨1200, 40, 0, 0⟩, 5⟩

/-- The segment of the tests as the current one. -/
def current : CurrentSegment := ⟨segment, 11, 0, 1, false⟩

/-! ### WellFormed refuses ill-formed commands -/

theorem test_wf_edge_too_late : (Instr.zeroCrossEdge 480001).wf = false ∧ (Instr.zeroCrossEdge 480000).wf = true := by
  decide

theorem test_wf_frame_too_long :
    (Instr.announceArrival ⟨0x641, false, List.replicate 9 0⟩).wf = false
      ∧ (Instr.announceArrival ⟨0x641, false, List.replicate 8 0⟩).wf = true := by decide

theorem test_wf_remote_frame_with_data :
    (Instr.announceArrival ⟨0x641, true, [0]⟩).wf = false ∧ (Instr.announceArrival ⟨0x641, true, []⟩).wf = true := by decide

theorem test_wf_leave_in_the_announce_row :
    (Instr.announceArrival ⟨0x650, false, [0]⟩).wf = false ∧ (Instr.leaveArrival ⟨0x650, false, [0]⟩).wf = true := by decide

theorem test_wf_announce_in_the_leave_row :
    (Instr.leaveArrival ⟨0x64F, false, [0]⟩).wf = false ∧ (Instr.leaveArrival ⟨0x658, false, [0]⟩).wf = false := by decide

theorem test_wf_conversion_range :
    (Instr.conversionComplete 32768).wf = false ∧ (Instr.conversionComplete (-32769)).wf = false
      ∧ (Instr.conversionComplete (-32768)).wf = true := by decide

/-! ### Witnesses: the hypotheses of the statements, met together

`hyps_X` gives, clause by clause in the order of the statement X, a state and operands that meet the clause's hypotheses,
at the ends of their ranges where they have any. -/

theorem hyps_StepRunsTheFrontCommand :
    ({ State.reset with pending := [.nop, .motionTick] } : State).pending = .nop :: [.motionTick]
      ∧ State.reset.pending = [] := by decide

theorem hyps_TransactionsCarryBytesAndReplies :
    (inTransaction .idle 0).host.transaction = .idle ∧ (inTransaction .discarding 7).host.transaction = .discarding
      ∧ (∀ n ∈ [0, 1, 31, 33, 255],
          (inTransaction .receiving n).host.transaction = .receiving ∧ (inTransaction .receiving n).host.byteCount ≠ 32)
      ∧ (withCommand State.reset [0x01]).Taken 0x01
      ∧ (∀ code ∈ ([0x00, 0x02, 0x0F, 0x15, 0x23, 0x5D, 0x5F, 0xFF] : List Byte),
          (withCommand State.reset [code]).Taken code
            ∧ code ∉ ([0x01, 0x10, 0x11, 0x12, 0x13, 0x14, 0x1F, 0x20, 0x21, 0x22, 0x30, 0x31, 0x32, 0x33, 0x34, 0x35, 0x40,
              0x41, 0x42, 0x50, 0x51, 0x5E] : List Byte))
      ∧ ∀ n ∈ [0, 31, 32, 254, 255], (inTransaction .receiving n).host.transaction = .receiving := by decide

theorem hyps_ReadStatusReturnsItsPages :
    ∀ p ∈ ([0, 1, 2, 3, 4, 5, 6, 255] : List Byte), (withCommand State.reset [0x30, p]).Taken 0x30
      ∧ byteAt (withCommand State.reset [0x30, p]).host.buffer 2 = p.toNat := by decide

theorem hyps_ReadZoneAndLoaderReturnTheirPages :
    (∀ p ∈ ([0, 1, 2, 3, 255] : List Byte), ∀ z ∈ ZoneId.list,
      let s := withCommand State.reset [0x31, BitVec.ofNat 8 z.index, p]
      s.Taken 0x31 ∧ byteAt s.host.buffer 2 = z.index ∧ byteAt s.host.buffer 3 = p.toNat)
    ∧ ∀ p ∈ ([0, 1, 2, 3, 255] : List Byte), (withCommand State.reset [0x32, p]).Taken 0x32
      ∧ byteAt (withCommand State.reset [0x32, p]).host.buffer 2 = p.toNat := by decide

/-- A part with a current segment, one queued record and one outcome. -/
def busy : State :=
  { station .running with
    exec := { Executor.reset with
      queue := [segment]
      current := some current
      outcomes := [⟨20, .done, 2, 0, 0, 0, 0, 0⟩] } }

theorem hyps_ReadPeerQueueAndOutcomeReturnTheirEntries :
    (∀ i ∈ [(1 : StationNo), 7], let s := withCommand busy [0x33, BitVec.ofNat 8 i.val];
      s.Taken 0x33 ∧ byteAt s.host.buffer 2 = i.val ∧ i ≠ s.bank.ownNumber)
    ∧ ((withCommand busy [0x33, 0]).Taken 0x33
      ∧ byteAt (withCommand busy [0x33, 0]).host.buffer 2 = (withCommand busy [0x33, 0]).bank.ownNumber.val)
    ∧ ((withCommand busy [0x34]).Taken 0x34 ∧ busy.exec.current = some current)
    ∧ ((withCommand State.reset [0x34]).Taken 0x34 ∧ State.reset.exec.current = none)
    ∧ ((withCommand busy [0x34, 0, 1]).Taken 0x34 ∧ byteAt (withCommand busy [0x34, 0, 1]).host.buffer 3 = 1
      ∧ byteAt (withCommand busy [0x34, 0, 1]).host.buffer 2 < busy.exec.queue.length)
    ∧ ((withCommand busy [0x34, 1, 1]).Taken 0x34
      ∧ busy.exec.queue.length ≤ byteAt (withCommand busy [0x34, 1, 1]).host.buffer 2)
    ∧ (∀ p ∈ ([2, 3, 255] : List Byte), (withCommand busy [0x34, 0, p]).Taken 0x34
      ∧ byteAt (withCommand busy [0x34, 0, p]).host.buffer 3 = p.toNat)
    ∧ ((withCommand busy [0x35, 0]).Taken 0x35
      ∧ byteAt (withCommand busy [0x35, 0]).host.buffer 2 < busy.exec.outcomes.length)
    ∧ ((withCommand busy [0x35, 1]).Taken 0x35
      ∧ busy.exec.outcomes.length ≤ byteAt (withCommand busy [0x35, 1]).host.buffer 2) := by decide

theorem hyps_ConfigurationCommandsStoreClampedFigures :
    (∀ code ∈ ([0x10, 0x12, 0x13] : List Byte),
      (withCommand State.reset [code]).Taken code ∧ State.reset.sup.station = .unconfigured)
    ∧ (∀ z ∈ ZoneId.list, let s := withCommand State.reset [0x11, BitVec.ofNat 8 z.index];
      s.Taken 0x11 ∧ byteAt s.host.buffer 2 = z.index ∧ s.sup.station = .unconfigured)
    ∧ ∀ i ∈ [(0 : Fin 8), 7], ∀ p ∈ ([0, 1, 255] : List Byte),
      let s := withCommand State.reset [0x14, BitVec.ofNat 8 i.val, p]
      s.Taken 0x14 ∧ byteAt s.host.buffer 2 = i.val ∧ byteAt s.host.buffer 3 = p.toNat := by decide

theorem hyps_RefusedCommandsChangeNothing :
    (∀ code ∈ ([0x10, 0x12, 0x13, 0x1F] : List Byte),
      (withCommand (station .joining) [code]).Taken code ∧ (station .joining).sup.station ≠ .unconfigured)
    ∧ ((withCommand (station .halted) [0x11, 4]).Taken 0x11
      ∧ byteAt (withCommand (station .halted) [0x11, 4]).host.buffer 2 ≤ 4)
    ∧ ((withCommand (station .halted) [0x14, 7]).Taken 0x14
      ∧ byteAt (withCommand (station .halted) [0x14, 7]).host.buffer 2 ≤ 7)
    ∧ (∀ code ∈ ([0x11, 0x31, 0x50, 0x22] : List Byte), (withCommand State.reset [code, 5]).Taken code
      ∧ 4 < byteAt (withCommand State.reset [code, 5]).host.buffer 2)
    ∧ (∀ code ∈ ([0x14, 0x33] : List Byte), (withCommand State.reset [code, 8]).Taken code
      ∧ 7 < byteAt (withCommand State.reset [code, 8]).host.buffer 2)
    ∧ ((withCommand State.reset [0x22, 0]).Taken 0x22 ∧ byteAt (withCommand State.reset [0x22, 0]).host.buffer 2 = 0) := by
  decide

/-- An unconfigured part with a store, with START in the buffer. -/
def starting (c : Store) : State := withCommand { State.reset with sup := ⟨.unconfigured, 0, c, false⟩ } [0x1F]

/-- The store of the tests with these two bands. -/
def withBands (a b : Band) : Store := { conf with bands := ⟨some a, some b, none, none, none, none, none, none⟩ }

theorem hyps_StartNamesTheFirstFailingCheck :
    ((starting State.reset.store).Taken 0x1F ∧ State.reset.store.bank.stationCount = 0)
    ∧ (0 < conf.bank.stationCount ∧ conf.bank.stationCount ≤ (4 : StationNo).val)
    ∧ ((3 : StationNo).val < conf.bank.stationCount
      ∧ (ZoneId.list.filter fun z => ((⟨zone, zone, ZoneConfig.reset, ZoneConfig.reset, ZoneConfig.reset⟩ :
          PerZone ZoneConfig).get z).inUse).length < 3)
    ∧ (3 ≤ (ZoneId.list.filter fun z => (conf.zones.get z).inUse).length
      ∧ (({ zone with spanEnd := 6000 } : ZoneConfig).inUse = true ∧ ({ zone with spanEnd := 6000 } : ZoneConfig).spanEnd
        ≤ ({ zone with spanEnd := 6000 } : ZoneConfig).spanStart))
    ∧ (∀ z, ¬ ((conf.zones.get z).inUse = true ∧ (conf.zones.get z).spanEnd ≤ (conf.zones.get z).spanStart)) :=
  ⟨by decide, by decide, by decide, by decide, fun z => by cases z <;> decide⟩

theorem hyps_StartNamesTheFirstFailingCheck_bands :
    (let c := withBands ⟨0, 10, 5⟩ ⟨10, 10, 5⟩;
      (∃ b, c.bands.get 1 = some b ∧ b.last ≤ b.first)
        ∧ ∀ j, j < 1 → ¬ ∃ b, c.bands.get j = some b ∧ b.last ≤ b.first)
    ∧ (let c := withBands ⟨0, 10, 5⟩ ⟨9, 20, 5⟩;
      (∃ a b, c.bands.get 1 = some a ∧ c.bands.get 0 = some b ∧ a.first < b.last ∧ b.first < a.last)
        ∧ ∀ k, ¬ ∃ b, c.bands.get k = some b ∧ b.last ≤ b.first) := by
  refine ⟨⟨⟨⟨10, 10, 5⟩, rfl, by decide⟩, fun j hj => ?_⟩, ⟨⟨9, 20, 5⟩, ⟨0, 10, 5⟩, rfl, rfl, by decide⟩, fun k => ?_⟩
  · rintro ⟨b, h, hl⟩
    obtain rfl : j = 0 := by omega
    cases h
    exact absurd hl (by decide)
  · rintro ⟨b, h, hl⟩
    fin_cases k <;> cases h <;> exact absurd hl (by decide)

theorem hyps_StartMakesEveryBlockStart :
    let s := starting (withBands ⟨0, 10, 5⟩ ⟨10, 20, 5⟩)
    s.Taken 0x1F ∧ s.sup.station = .unconfigured ∧ s.bank.ownNumber.val < s.store.bank.stationCount
      ∧ 3 ≤ (ZoneId.list.filter fun z => (s.store.zones.get z).inUse).length
      ∧ (∀ z, (s.store.zones.get z).inUse = true → (s.store.zones.get z).spanStart < (s.store.zones.get z).spanEnd)
      ∧ (∀ i b, s.store.bands.get i = some b → b.first < b.last)
      ∧ (∀ i j a b, i ≠ j → s.store.bands.get i = some a → s.store.bands.get j = some b →
        ¬ (a.first < b.last ∧ b.first < a.last))
      ∧ s.sup.haltAsserted = false ∧ s.loader.state = .atRest := by
  refine ⟨by decide, by decide, by decide, by decide, fun z => ?_, fun i b h => ?_, fun i j a b hn hi hj => ?_, by decide⟩
  · cases z <;> decide
  · fin_cases i <;> cases h <;> decide
  · fin_cases i <;> cases hi <;> fin_cases j <;> cases hj <;> first
      | exact absurd rfl hn
      | decide

/-- A part with this many records queued. -/
def queued (st : StationState) (n : Nat) : State :=
  { station st with exec := { Executor.reset with queue := List.replicate n segment } }

theorem hyps_AppendAddsTheClampedRecord :
    (let s := withCommand (queued .running 15) [0x20];
      s.Taken 0x20 ∧ s.sup.station ≠ .unconfigured ∧ s.exec.queue.length < 16)
    ∧ ((withCommand State.reset [0x20]).Taken 0x20 ∧ State.reset.sup.station = .unconfigured)
    ∧ (let s := withCommand (queued .running 16) [0x20];
      s.Taken 0x20 ∧ s.sup.station ≠ .unconfigured ∧ 16 ≤ s.exec.queue.length) := by decide

theorem hyps_AmendsReachTheShadowAndThenTheSegment :
    ((withCommand busy [0x21]).Taken 0x21 ∧ (withCommand busy [0x21]).exec.current = some current)
    ∧ ((withCommand State.reset [0x21]).Taken 0x21 ∧ State.reset.exec.current = none)
    ∧ (phased .held 79).NextReaches ((phased .held 79).n - 20) := by decide

theorem hyps_UrgentFillsTheSlotAndTheMarkIsStored :
    (∀ k ∈ [UrgentKind.skip, .hold, .resume, .flush],
      let s := withCommand (station .joining) [0x22, BitVec.ofNat 8 k.code]
      s.Taken 0x22 ∧ byteAt s.host.buffer 2 = k.code ∧ s.sup.station ≠ .unconfigured ∧ s.exec.urgent = none)
    ∧ (let s := withCommand { station .idle with exec := { Executor.reset with urgent := some .hold } } [0x22, 1];
      s.Taken 0x22 ∧ byteAt s.host.buffer 2 = UrgentKind.skip.code ∧ s.exec.urgent ≠ none)
    ∧ (withCommand State.reset [0x22, 4]).Taken 0x22
    ∧ ∀ m ∈ ([0, 15, 16, 255] : List Byte), (withCommand State.reset [0x42, m]).Taken 0x42
      ∧ byteAt (withCommand State.reset [0x42, m]).host.buffer 2 = m.toNat := by decide

theorem hyps_ReasonsMaskAndAttn :
    (withCommand State.reset [0x40, 0xFF, 0xFF]).Taken 0x40 ∧ (withCommand State.reset [0x41, 0xFD, 0xFF]).Taken 0x41 := by
  decide

/-- A part HELD with Z2 tripped, its limit reading as given. -/
def tripped (r : Reading) : State :=
  let s := setZone (station .held) .z2 { ZoneState.reset with tripped := true }
  withCommand { s with scanner := { Scanner.reset with lt := s.scanner.lt.set .z2 r } } [0x50, 1]

theorem hyps_ResetTripAndClearHalt :
    (∀ v ∈ [9400, 9401], (tripped ⟨v, .valid, 0⟩).Taken 0x50
      ∧ byteAt (tripped ⟨v, .valid, 0⟩).host.buffer 2 = ZoneId.z2.index
      ∧ ((tripped ⟨v, .valid, 0⟩).zones.zones.get .z2).tripped = true
      ∧ (((tripped ⟨v, .valid, 0⟩).scanner.lt.get .z2).value + 100
          ≤ ((tripped ⟨v, .valid, 0⟩).store.zones.get .z2).overLimit ↔ v = 9400))
    ∧ ((tripped ⟨0, .openCircuit, 3⟩).scanner.lt.get .z2).status ≠ .valid
    ∧ ((withCommand (station .idle) [0x50, 0]).Taken 0x50
      ∧ ((station .idle).zones.zones.get .z1).tripped = false)
    ∧ ((withCommand (station .halted) [0x51]).Taken 0x51 ∧ (station .halted).sup.haltAsserted = false)
    ∧ ((withCommand (station .held) [0x51]).Taken 0x51 ∧ (station .held).sup.station ≠ .halted) := by decide

/-- A HALTED part's loaders: at rest, stopping, in DWELL and stalled, each with HALT among its stop causes. -/
theorem hyps_ResetTripAndClearHalt_loader :
    ∀ st ∈ [LoaderState.atRest, .stopping, .dwell, .stalled],
      let l : Loader := { boat st (some 5) (if st = .stopping then 40 else 0) .inward 600 with
        causes := ⟨false, true, false, decide (st = .dwell), false⟩ }
      let s := withCommand (withBoat (station .halted) l) [0x51]
      s.Taken 0x51 ∧ s.sup.station = .halted ∧ s.sup.haltAsserted = false ∧ s.loader.state ≠ .homing
        ∧ s.loader.state ≠ .moving ∧ s.loader.state ≠ .waitCurtain
        ∧ (s.loader.causes.halt = true ↔ s.sup.station = .halted) ∧ s.loader.StopInv := by
  unfold Loader.StopInv; decide

/-- Those loaders meet the bond of station state and stop causes too. -/
theorem hyps_ResetTripAndClearHalt_causes :
    let s := withCommand (withBoat { listening 5 with sup := ⟨.halted, 0, conf, false⟩ }
      { boat .stopping (some 5) 40 .inward 600 with causes := ⟨false, true, false, false, false⟩ }) [0x51]
    s.Taken 0x51 ∧ s.CauseInv ∧ s.loader.StopInv := by
  unfold State.CauseInv State.TimerInv Loader.StopInv; decide

theorem hyps_RestartReturnsTheUnconfiguredValues : (withCommand busy [0x5E]).Taken 0x5E := by decide

theorem hyps_BoundariesCountFireAndRaiseTheirPosition :
    (∀ c ∈ [0, 2, 4, 78, 80, 98], let s := phased .running c;
      s.timer.timer = .phased ∧ s.timer.windowCount + 1 < s.endCount
        ∧ (∀ p ∈ [4 + 10 * s.bank.ownNumber.val, s.n - 20, s.n - 16, s.n - 10], s.timer.windowCount + 1 ≠ p)
        ∧ s.timer.mains = .present ∧ s.timer.boundarySeen = true ∧ (darkened s).timer.mains = .lost
        ∧ ∀ e ∈ [80000, 239999], s.EdgeCountsOne e ∧ s.threeH ≤ 6 * e)
    ∧ (State.reset.timer.timer = .stopped ∧ (phased .running 0).timer.mains = .present)
    ∧ (∀ q ∈ [(Instr.ownSlot, 4), (.sequencePosition, 80), (.sharePosition, 84), (.controlPosition, 90)],
      let s := phased .running (q.2 - 1)
      q ∈ [(Instr.ownSlot, 4 + 10 * s.bank.ownNumber.val), (.sequencePosition, s.n - 20), (.sharePosition, s.n - 16),
        (.controlPosition, s.n - 10)] ∧ s.NextReaches q.2 ∧ (darkened s).NextReaches q.2)
    ∧ ((phased .running 99).EndsWindow ∧ (darkened (phased .running 99)).EndsWindow)
    ∧ (∀ c ∈ [0, 98, 100], let s := listening c;
      s.timer.timer = .listening ∧ s.timer.windowCount + 1 ≠ s.n ∧ s.timer.firstStart = none ∧ s.EdgeCountsOne 80000)
    ∧ (let s := listening 99; s.timer.windowCount + 1 = s.n ∧ s.timer.firstStart = none)
    ∧ (let s : State := { listening 99 with timer := { (listening 99).timer with firstStart := some ⟨100, 4⟩ } };
      s.timer.firstStart = some ⟨s.timer.windowCount + 1, 4⟩)
    ∧ (let s : State := { listening 0 with timer := { (listening 0).timer with boundarySeen := false } };
      s.EdgeCountsOne 0 ∧ s.timer.mains = .present) := by decide

theorem hyps_ZeroCrossEdgesCountBoundaries :
    State.reset.timer.timer = .stopped
    ∧ (let s := phased .running 37;
      s.timer.timer ≠ .stopped ∧ s.timer.mains = .present ∧ s.timer.boundarySeen = true ∧ 6 * 79999 < s.threeH
        ∧ (∀ e ∈ [80000, 239999], (2 * 1 - 1) * s.threeH ≤ 6 * e ∧ 6 * e < (2 * 1 + 1) * s.threeH)
        ∧ (∀ e ∈ [400000, 559999], (2 * 3 - 1) * s.threeH ≤ 6 * e ∧ 6 * e < (2 * 3 + 1) * s.threeH))
    ∧ (let s : State := { listening 0 with timer := { (listening 0).timer with boundarySeen := false } };
      s.timer.timer ≠ .stopped ∧ s.timer.boundarySeen = false)
    ∧ (let s := darkened (phased .running 20);
      s.timer.timer ≠ .stopped ∧ s.timer.mains = .lost ∧ 6 * 79999 < s.threeH ∧ s.threeH ≤ 6 * 80000) := by decide

theorem hyps_MainsLostCountsThreeAndStopsFiring :
    (∀ c ∈ [0, 4, 76, 80, 96], let s := phased .running c;
      s.timer.timer ≠ .stopped ∧ s.timer.mains = .present ∧ s.timer.timer = .phased
        ∧ s.timer.windowCount + 3 < s.endCount
        ∧ ∀ p ∈ [4 + 10 * s.bank.ownNumber.val, s.n - 20, s.n - 16, s.n - 10],
            s.timer.windowCount + 3 < p ∨ p ≤ s.timer.windowCount)
    ∧ State.reset.timer.timer = .stopped ∧ (darkened (phased .idle 0)).timer.mains = .lost := by decide

/-- A part with a phase candidate of station 2, whose window ends at this count, from 77 on, and whose next boundary reaches it. -/
def ending (st : StationState) (count : Nat) : State :=
  let s := phased st (count - 1)
  { s with timer := { s.timer with candidate := some ⟨2, count - 76, 17⟩ } }

theorem hyps_MainsLostCountsThreeAndStopsFiring_positions :
    (∀ c ∈ [77, 78, 79], let s := phased .running c;
      s.timer.windowCount < s.n - 20 ∧ s.n - 20 ≤ s.timer.windowCount + 3 ∧ s.timer.windowCount + 3 < s.endCount
        ∧ ∃ u, exec .sequencePosition { s with timer := { s.timer with windowCount := 79 } } = .next u
            ∧ s.timer.windowCount + 3 < u.endCount)
    ∧ (let s := { ending .running 81 with timer := { (ending .running 81).timer with windowCount := 79 } };
      s.timer.windowCount < s.n - 20 ∧ s.n - 20 < s.endCount
        ∧ ∃ u, exec .sequencePosition s = .next u ∧ s.n - 20 < u.endCount ∧ u.endCount ≤ s.timer.windowCount + 3)
    ∧ (∀ c ∈ [97, 98, 99], let s := phased .running c;
      s.timer.windowCount < s.endCount ∧ s.endCount ≤ s.timer.windowCount + 3
        ∧ ∀ p ∈ [4 + 10 * s.bank.ownNumber.val, s.n - 20, s.n - 16, s.n - 10], p ≤ s.timer.windowCount ∨ s.endCount ≤ p)
    ∧ (∀ c ∈ [0, 96, 100], let s := listening c;
      s.timer.timer = .listening ∧ s.timer.firstStart = none
        ∧ ∀ k ∈ [1, 2, 3], s.timer.windowCount + k ≠ s.n)
    ∧ (∀ k ∈ [1, 2, 3], let s := listening 130;
      s.timer.windowCount < 130 + k ∧ 130 + k ≤ s.timer.windowCount + 3)
    ∧ (∀ c ∈ [97, 99], let s := listening c;
      s.timer.firstStart = none ∧ s.timer.windowCount < s.n ∧ s.n ≤ s.timer.windowCount + 3) := by
  refine ⟨?_, ⟨by decide, by decide, _, rfl, by decide⟩, by decide, by decide, by decide, by decide⟩
  intro c hc
  simp only [List.mem_cons, List.not_mem_nil, or_false] at hc
  rcases hc with rfl | rfl | rfl <;> exact ⟨by decide, by decide, by decide, _, rfl, by decide⟩

/-- A part about to end listening, with this record of station 0. -/
def heardAt (r : Option ListenRecord) : State :=
  { listening 99 with timer := { (listening 99).timer with listening := ⟨r, none, none, none, none, none, none, none⟩ } }

theorem hyps_ListeningEndFixesTheFirstWindow :
    (let s := heardAt none;
      s.timer.timer = .listening ∧ s.timer.windowCount + 1 = s.n ∧ s.timer.firstStart = none
        ∧ ∀ i, s.timer.listening.get i = none)
    ∧ ∀ p ∈ [3, 4, 5], let s := heardAt (some ⟨p, 255⟩);
      s.timer.timer = .listening ∧ s.timer.windowCount + 1 = s.n ∧ s.timer.firstStart = none
        ∧ s.timer.listening.get 0 = some ⟨p, 255⟩ ∧ (∀ j : StationNo, j < 0 → s.timer.listening.get j = none)
        ∧ (p + s.n - (4 + 10 * (0 : StationNo).val) < s.n ↔ p = 3)
        ∧ (p + s.n - (4 + 10 * (0 : StationNo).val) = s.n ↔ p = 4) := by decide

/-- A part whose first window start is fixed at the next boundary. -/
def starts : State :=
  { listening 136 with timer := { (listening 136).timer with firstStart := some ⟨137, 201⟩ } }

/-- A part with a phase candidate: station 2 in round 17. -/
def led (s : State) (arrival : Nat) : State := { s with timer := { s.timer with candidate := some ⟨2, arrival, 17⟩ } }

/-- A part with a FRESH entry of station 3, two windows old. -/
def ageing : State :=
  let s := phased .joining 99
  { s with bank := { s.bank with peers := s.bank.peers.set 3 ⟨.fresh, true, 9, 2, ⟨.running, 5, 250, 100, 40, 60⟩, true⟩ } }

theorem hyps_FirstWindowStartBeginsThePhasedRun :
    starts.timer.timer = .listening ∧ starts.timer.firstStart = some ⟨starts.timer.windowCount + 1, 201⟩
    ∧ (let s : State := { starts with bank := ageing.bank };
      (s.bank.peers.get 3).presence = .fresh ∧ (s.bank.peers.get 3).age = 2) := by decide

theorem hyps_WindowStartBeginsTheNextRound :
    (phased .running 99).EndsWindow ∧ (led (phased .running 142) 67).EndsWindow ∧ (led (phased .running 90) 15).EndsWindow
      ∧ ageing.EndsWindow ∧ ageing.sup.station = .joining
      ∧ (ageing.bank.peers.get 3).presence = .fresh ∧ (ageing.bank.peers.get 3).age = 2
      ∧ (ending .running 91).n - 10 < (ending .running 91).endCount ∧ (phased .running 99).n - 10 < (phased .running 99).endCount
      ∧ (∀ st ∈ [StationState.running, .held, .joining], ∀ c ∈ [80, 81, 84, 85, 90, 91], (ending st c).EndsWindow)
      ∧ ({ phased .running 99 with exec := busy.exec } : State).atWindowEnd.exec.current = some current := by decide

theorem hyps_WindowStartHandsOverDutiesAndFlows :
    (phased .running 99).EndsWindow ∧ (ending .running 90).EndsWindow ∧ (ending .running 91).EndsWindow := by decide

/-- A part at the end of a window that a gas part was supplied through, taken in that window or before it: 40 fu delivered. -/
def supplied (taken : Bool) : State :=
  let s := phased .running 99
  { s with
    gas := { s.gas with
      running := ⟨40, 40, true⟩, next := ⟨40, 40, true⟩, part := ⟨true, 40, 3, 36000, 0, false⟩, takenInWindow := taken }
    scanner := { s.scanner with fpAcc := ⟨80, 2⟩ } }

theorem hyps_WindowStartHandsOverDutiesAndFlows_part :
    ∀ b ∈ [true, false], let p := (supplied b).atWindowEnd
      (supplied b).EndsWindow ∧ p.gas.part.current = true ∧ p.gas.part.complete = false
        ∧ p.gas.running.partFlow = true ∧ p.gas.takenInWindow = b ∧ p.sup.station ≠ .halted := by decide

/-- A part at the end of a window with these flows: commanded purge, sum and count of FP conversions, of FC conversions, and
its curtain record. -/
def flows (purge : Nat) (fp fc : Accumulation) (established : Bool) (good bad : Nat) : State :=
  let s := phased .running 99
  { s with
    gas := { s.gas with running := ⟨0, purge, false⟩, established := established, good := good, bad := bad }
    scanner := { s.scanner with fpAcc := fp, fcAcc := fc } }

theorem hyps_WindowStartJudgesTheFlows :
    (∀ g ∈ [0, 1, 2], let s := flows 4 ⟨1, 1⟩ ⟨30, 1⟩ false g 0;
      s.EndsWindow ∧ 4 ≤ s.gas.running.purge
        ∧ 2 * (after (exec .windowStart s)).scanner.lastFp < s.gas.running.purge
        ∧ s.store.gas.curtainMin ≤ (after (exec .windowStart s)).scanner.lastFc ∧ s.gas.established = false)
    ∧ (∀ b ∈ [0, 1], let s := flows 4 ⟨2, 1⟩ ⟨29, 1⟩ true 0 b;
      s.EndsWindow ∧ ¬ 2 * (after (exec .windowStart s)).scanner.lastFp < s.gas.running.purge
        ∧ ¬ s.store.gas.curtainMin ≤ (after (exec .windowStart s)).scanner.lastFc ∧ s.gas.established = true) := by decide

/-- `flows` with a loader record. -/
def flowing (fc : Nat) (established : Bool) (good bad : Nat) (l : Loader) : State :=
  withBoat (flows 4 ⟨2, 1⟩ ⟨fc, 1⟩ established good bad) { l with part := { l.part with dwellBand := 0 } }

theorem hyps_WindowStartJudgesTheFlows_loader :
    (∀ st ∈ [LoaderState.moving, .homing, .stopping, .waitCurtain, .atRest], let s := flowing 29 true 0 1 (boat st (some 5) 0 .inward 9);
      s.EndsWindow ∧ s.loader.NoDwell ∧ s.gas.established = true
        ∧ (after (exec .windowStart s)).gas.established = false)
    ∧ (∀ st ∈ [LoaderState.stopping, .waitCurtain, .atRest], let s := flowing 30 false 2 0 (boat st (some 5) 0 .inward 9);
      s.EndsWindow ∧ s.loader.NoDwell ∧ s.gas.established = false
        ∧ (after (exec .windowStart s)).gas.established = true) := by decide

/-- A part at the end of a window, Z2 lagging by this much, with a loader record. -/
def lagging (lag : Nat) (l : Loader) : State :=
  let s := phased .running 99
  { s with
    ramp := { s.ramp with zones := s.ramp.zones.set .z2 ⟨some (8000 + lag), none, none, .steady⟩ }
    scanner := { s.scanner with ct := s.scanner.ct.set .z2 ⟨8000, .valid, 0⟩ }
    loader := l }

/-- The one zone that has a setpoint in `lagging` lags by more than a bound when the lag is above it. -/
theorem lagging_lags {lag bound : Nat} (l : Loader) (h : bound < lag) : (lagging lag l).Lags (lagging lag l).ramp bound :=
  ⟨.z2, 8000 + lag, rfl, rfl, rfl, by show 8000 + bound < 8000 + lag; omega⟩

/-- And by no more than it when it is not. -/
theorem lagging_close {lag bound : Nat} (l : Loader) (h : lag ≤ bound) : ¬ (lagging lag l).Lags (lagging lag l).ramp bound := by
  rintro ⟨z, p, -, hp, -, hv⟩
  cases z <;> cases hp
  have hv : 8000 + bound < 8000 + lag := hv
  omega

/-- DWELL alone among the stop causes. -/
def dwelling : StopCauses := ⟨false, false, false, true, false⟩

/-- A part at the end of a window that loses the curtain, or establishes it, Z2 lagging by this much. -/
def veiled (loses : Bool) (lag : Nat) (l : Loader) : State :=
  let s := lagging lag l
  { s with
    gas := { s.gas with established := loses, good := 2, bad := 1 }
    scanner := { s.scanner with fcAcc := ⟨if loses then 29 else 30, 1⟩ } }

theorem hyps_WindowStartJudgesTheFlows_dwell :
    (∀ b ∈ [true, false], ∀ c ∈ [(40, boat .moving (some 5) 0 .inward 600), (80, boat .moving (some 5) 40 .inward 600),
        (80, boat .homing none 40 .outward 600), (40, boat .waitCurtain (some 5) 0 .inward 600),
        (40, { boat .stopping (some 5) 10 .inward 600 with causes := dwelling, dwellTotal := 2 }),
        (40, { boat .dwell (some 5) 0 .inward 600 with causes := ⟨b, false, !b, true, false⟩ }),
        (41, { boat .dwell (some 5) 0 .inward 600 with causes := ⟨b, false, !b, true, false⟩ })],
      let s := veiled b c.1 c.2
      s.EndsWindow ∧ s.gas.established = b ∧ (after (exec .windowStart s)).gas.established = !b ∧ s.loader.StopInv
        ∧ s.loader.part.dwellBand = 80 ∧ s.loader.part.maxDwell = 3
        ∧ (after (exec .windowStart s)).ramp.zones = s.ramp.zones)
    ∧ (∀ (b : Bool) (l : Loader), ¬ (veiled b 40 l).Lags (veiled b 40 l).ramp 40
      ∧ (veiled b 41 l).Lags (veiled b 41 l).ramp 40 ∧ ¬ (veiled b 80 l).Lags (veiled b 80 l).ramp 80
      ∧ (veiled b 81 l).Lags (veiled b 81 l).ramp 80) :=
  ⟨by unfold Loader.StopInv; decide, fun _ l => ⟨lagging_close l (by decide), lagging_lags l (by decide),
    lagging_close l (by decide), lagging_lags l (by decide)⟩⟩

theorem hyps_DwellChecksStopAndReleaseThePush :
    (∀ n ∈ [2, 3, 65535], let s := lagging 41 { boat .dwell (some 5) 0 .inward 600 with causes := dwelling, dwellTotal := n };
      s.EndsWindow ∧ (after (exec .windowStart s)).gas.established = s.gas.established ∧ s.loader.causes.dwell = true
        ∧ 0 < s.loader.part.maxDwell ∧ (s.loader.part.maxDwell < min 65535 (n + 1) ↔ n ≠ 2))
    ∧ (∀ lag ∈ [40, 41, 80, 81], let s := lagging lag (boat .moving (some 5) 40 .inward 600);
      s.EndsWindow ∧ s.loader.causes.dwell = false ∧ s.loader.part.dwellBand = 80 ∧ s.loader.state = .moving
        ∧ s.loader.direction = .inward ∧ (after (exec .windowStart s)).gas.established = s.gas.established
        ∧ (after (exec .windowStart s)).ramp.zones = s.ramp.zones)
    ∧ (lagging 1 { boat .dwell (some 5) 0 .inward 600 with causes := dwelling }).EndsWindow
    ∧ (∀ l : Loader, (lagging 41 l).Lags (lagging 41 l).ramp 40 ∧ ¬ (lagging 40 l).Lags (lagging 40 l).ramp 40
      ∧ (lagging 81 l).Lags (lagging 81 l).ramp 80 ∧ ¬ (lagging 80 l).Lags (lagging 80 l).ramp 80) :=
  ⟨by decide, by decide, by decide, fun l => ⟨lagging_lags l (by decide), lagging_close l (by decide),
    lagging_lags l (by decide), lagging_close l (by decide)⟩⟩

/-- The ramp of the example of section 6.5 at the window start of a round: Z2 and Z3 on their way to 8000. -/
def ramping (pattern sp2 sp3 r2 r3 : Nat) (curtailed : Bool) : State :=
  let s := phased .running 99
  { s with
    ramp :=
      { s.ramp with
        zones := ⟨⟨none, none, none, .steady⟩, ⟨some sp2, some 7990, some 8000, .rising⟩,
          ⟨some sp3, some 7985, some 8000, .rising⟩, ⟨none, none, none, .steady⟩, ⟨none, none, none, .steady⟩⟩
        partCurrent := true
        rate := 150
        guardBand := 20
        pattern := pattern }
    scanner := { s.scanner with ct := ⟨⟨0, .valid, 0⟩, ⟨r2, .valid, 0⟩, ⟨r3, .valid, 0⟩, ⟨0, .valid, 0⟩, ⟨0, .valid, 0⟩⟩ }
    zones := { s.zones with zones := s.zones.zones.set .z3 { ZoneState.reset with curtailedNext := curtailed } }
    loader := boat .atRest (some 0) 0 .inward 0 |> fun l => { l with part := { l.part with dwellBand := 0 } } }

theorem hyps_RampStepsMoveOrHold :
    (let s := ramping 1 7990 7985 7991 7986 false;
      s.EndsWindow ∧ s.atWindowEnd.ramp.partCurrent = true ∧ (after (exec .windowStart s)).ramp.held = false)
    ∧ (let s := ramping 2 7992 7987 7992 7985 true;
      s.EndsWindow ∧ s.atWindowEnd.ramp.partCurrent = true ∧ (after (exec .windowStart s)).ramp.held = true
        ∧ s.ramp.rate ≠ 0)
    ∧ (let s := ramping 60 8000 8000 8020 7980 false;
      s.EndsWindow ∧ (after (exec .windowStart s)).ramp.held = false ∧ (after (exec .windowStart s)).ramp.complete = true)
    ∧ (let s := ramping 60 8000 8000 8021 7980 false; (after (exec .windowStart s)).ramp.complete = false)
    ∧ (let s := ramping 1 7990 7985 7991 7986 false;
      let u : State := { s with ramp := { s.ramp with zones := s.ramp.zones.set .z1 ⟨some 7000, none, none, .steady⟩ } };
      u.EndsWindow ∧ (after (exec .windowStart u)).ramp.held = false
        ∧ (u.atWindowEnd.ramp.zones.get .z1) = ⟨some 7000, none, none, .steady⟩)
    ∧ (∀ c ∈ [80, 100], (ending .running c).EndsWindow ∧ (ending .running c).atWindowEnd.ramp.partCurrent = false) := by decide

theorem hyps_OwnSlotFillsTheRecord :
    ((phased .joining 3).NextReaches (4 + 10 * (phased .joining 3).bank.ownNumber.val)
      ∧ (phased .joining 3).store.bank.stationCount ≠ 1)
    ∧ (let s : State := { phased .running 3 with sup := ⟨.running, 2, { conf with bank := ⟨1200, 150, 1, 0, 5⟩ }, false⟩ };
      s.NextReaches (4 + 10 * s.bank.ownNumber.val) ∧ s.store.bank.stationCount = 1 ∧ s.bank.ownNumber = 0
        ∧ s.sup.station ≠ .joining ∧ s.sup.station ≠ .halted) := by decide

/-- A part with a PENDING record. -/
def announcing : State :=
  let s := phased .running 5
  { s with bank := { s.bank with record := ⟨.pending, 117, Figures.reset, 9⟩ } }

theorem hyps_TransmissionsEndAsTheRulesSay :
    announcing.bank.record.status = .pending ∧ (phased .running 5).bank.record.status ≠ .pending := by decide

/-- An ANNOUNCE of station 3 of a RUNNING state, priority 5: round, firm 250, extra 100, nitrogen 40 and 60. -/
def announce (round signature : Byte) : CanFrame := ⟨0x643, false, [round, 0x35, 0x0F, 0xA0, 0x64, 40, 60, signature]⟩

theorem hyps_AcceptedAnnouncesUpdateThePeer :
    (∀ st ∈ [1, 2, 3, 4, 5], ∃ q, (st, q) ∈ [(1, StationState.joining), (2, .idle), (3, .running), (4, .held), (5, .halted)])
    ∧ (let s := phased .running 99;
      s.timer.timer ≠ .stopped ∧ (announce 0 0).remote = false
        ∧ (announce 0 0).identifier.toNat = 0x640 + (3 : StationNo).val ∧ (3 : StationNo) ≠ s.bank.ownNumber
        ∧ (3 : StationNo).val < s.store.bank.stationCount ∧ (0x35 : Byte).toNat / 16 = 3
        ∧ s.timer.timer = .phased ∧ s.timer.windowCount < s.n)
    ∧ (∀ c ∈ [33, 35], let s := phased .running c;
      s.timer.windowCount < 34 + 2 ∧ 34 < s.timer.windowCount + 2)
    ∧ ¬ (led (phased .running 100) 67).timer.windowCount < (led (phased .running 100) 67).n
    ∧ ((listening 99).timer.timer = .listening ∧ (announce 0 0).data.getD 7 1 = BitVec.ofNat 8 (listening 99).bank.signature
      ∧ (listening 99).timer.windowCount < (listening 99).n)
    ∧ (listening 100).n ≤ (listening 100).timer.windowCount := by
  refine ⟨?_, by decide, by decide, by decide, by decide, by decide⟩
  intro st h
  simp only [List.mem_cons, List.not_mem_nil, or_false] at h
  rcases h with rfl | rfl | rfl | rfl | rfl
  · exact ⟨.joining, by decide⟩
  · exact ⟨.idle, by decide⟩
  · exact ⟨.running, by decide⟩
  · exact ⟨.held, by decide⟩
  · exact ⟨.halted, by decide⟩

theorem hyps_LeavesAndRejectedFrames :
    State.reset.timer.timer = .stopped ∧ (⟨0x640, true, []⟩ : CanFrame).remote = true
    ∧ (∀ id ∈ [0x000, 0x63F, 0x648, 0x64F, 0x658, 0x7FF], id < 0x640 ∨ 0x657 < id ∨ (0x647 < id ∧ id < 0x650))
    ∧ (let s := phased .running 20;
      s.timer.timer ≠ .stopped ∧ (0 : StationNo) = s.bank.ownNumber ∧ (4 : StationNo) ≠ s.bank.ownNumber
        ∧ (⟨0x640, false, []⟩ : CanFrame).identifier.toNat = 0x640 + (0 : StationNo).val
        ∧ (⟨0x650, false, []⟩ : CanFrame).identifier.toNat = 0x650 + (0 : StationNo).val
        ∧ (⟨0x644, false, List.replicate 7 0⟩ : CanFrame).data.length ≠ 8
        ∧ (⟨0x654, false, [0, 0]⟩ : CanFrame).data.length ≠ 1
        ∧ s.store.bank.stationCount ≤ (4 : StationNo).val ∧ (3 : StationNo).val < s.store.bank.stationCount
        ∧ (∀ b ∈ [(0x0F : Byte), 0x60, 0xFF], b.toNat / 16 = 0 ∨ 6 ≤ b.toNat / 16)
        ∧ (⟨0x653, false, [7]⟩ : CanFrame).identifier.toNat = 0x650 + (3 : StationNo).val
        ∧ (0 : Byte).toNat = s.bank.signature ∧ (7 : Byte).toNat ≠ s.bank.signature) := by decide

/-- A part about to reach its sequence position, with these records queued. -/
def sequence (st : StationState) (q : List Segment) : State :=
  { phased st 79 with exec := { Executor.reset with queue := q } }

theorem hyps_SequencePositionStartsTheHead :
    (let s := sequence .idle [segment];
      s.NextReaches (s.n - 20) ∧ s.sup.station = .idle ∧ s.exec.urgent = none ∧ s.exec.current = none
        ∧ s.exec.queue = segment :: [])
    ∧ (segment.thermal = some ⟨⟨none, some 8010, some 8010, none, none⟩, 60, 0⟩ ∧ (conf.zones.get .z2).inUse = true
      ∧ segment.gas = some ⟨40, 3⟩ ∧ segment.boat = some ⟨1200, 40, 0, 0⟩)
    ∧ (let g : Segment := ⟨23, none, none, none, 2⟩
      g.thermal = none ∧ g.gas = none ∧ g.boat = none ∧ (sequence .idle [g, segment]).exec.queue = g :: [segment]) := by
  decide

theorem hyps_TakenBoatPartsStartTheirMotion :
    ∀ p ∈ [none, some 0, some 1200], ∀ e ∈ [true, false],
      let s : State := { sequence .idle [segment] with
        loader := { Loader.reset with position := p }, gas := { Gas.reset with established := e } }
      s.NextReaches (s.n - 20) ∧ s.sup.station = .idle ∧ s.exec.urgent = none ∧ s.exec.current = none
        ∧ s.exec.queue = segment :: [] ∧ segment.boat = some ⟨1200, 40, 0, 0⟩ ∧ s.loader.state = .atRest
        ∧ s.loader.causes = ⟨false, false, false, false, false⟩ ∧ s.loader.position = p ∧ s.gas.established = e
        ∧ s.loader.homeActive = false := by decide

theorem hyps_StopCausesAndMotionStartsActOnTheLoader :
    (∀ p ∈ [some 9, some 8, some 10, none], let l := boat .atRest p 0 .inward 9;
      (l.state = .atRest ∧ l.part.current = true ∧ l.part.complete = false ∧ l.causes = ⟨false, false, false, false, false⟩)
        ∧ (l.position = some l.part.target ↔ p = some 9))
    ∧ (∀ h ∈ [true, false], ∀ g ∈ [0, 1], let l : Loader := { boat .waitCurtain none 0 .inward g with homeActive := h };
      l.position = none ∧ l.homeActive = h ∧ (l.part.target = 0 ↔ g = 0))
    ∧ (∀ k ∈ [StopCause.hold, .halt, .curtain, .dwell, .skip],
      (boat .moving (some 5) 1 .inward 9).causes.has k = false ∧ (StopCauses.put ⟨false, false, false, false, false⟩ k true).has k = true)
    ∧ 0 < (boat .moving (some 5) 1 .inward 9).speed ∧ (boat .homing none 0 .outward 9).speed = 0
    ∧ (∀ n ∈ [2, 3, 65535], let l : Loader := { boat .dwell (some 5) 0 .inward 9 with causes := dwelling, dwellTotal := n };
      l.causes.dwell = true ∧ 0 < l.part.maxDwell ∧ (l.part.maxDwell < min 65535 (n + 1) ↔ n ≠ 2))
    ∧ (boat .waitCurtain (some 5) 0 .inward 9).inMotion = false := by decide

/-- A part about to reach its sequence position with a segment current, its parts complete, and these records queued. -/
def finishing (st : StationState) (c : CurrentSegment) (q : List Segment) : State :=
  { sequence st q with
    exec := { Executor.reset with current := some c, queue := q }
    ramp := { Ramp.reset with complete := true, partCurrent := true }
    gas := { Gas.reset with part := ⟨true, 40, 3, 36000, 36000, true⟩ }
    loader := { Loader.reset with part := ⟨true, 1200, 40, 0, 0, true⟩ } }

theorem hyps_SequencePositionEndsTheSegment :
    (∀ q ∈ [[], [segment]], ∀ n ∈ [4, 5],
      let s := finishing .running { current with windows := n } q
      let a := s.applyShadow
      s.NextReaches (s.n - 20) ∧ s.exec.urgent = none ∧ ¬ (s.sup.station = .joining ∧ s.sup.joiningCount = 2)
        ∧ a.exec.current = some { current with windows := n } ∧ a.sup.station = .running ∧ a.exec.queue = q
        ∧ (segment.thermal.isSome = true → a.ramp.complete = true)
        ∧ (segment.gas.isSome = true → a.gas.part.complete = true)
        ∧ (segment.boat.isSome = true → a.loader.part.complete = true) ∧ (segment.minDuration ≤ n ↔ n = 5))
    ∧ (∀ st ∈ [StationState.running, .held, .halted],
      let s := finishing st { current with skipPending := true } [segment]
      s.NextReaches (s.n - 20) ∧ s.applyShadow.exec.current = some { current with skipPending := true }
        ∧ s.applyShadow.sup.station = st ∧ s.applyShadow.loader.inMotion = false) := by decide

/-- A part about to reach its sequence position with an urgent command in the slot and a segment current. -/
def urged (st : StationState) (k : UrgentKind) : State :=
  { phased st 79 with exec := { Executor.reset with urgent := some k, lastKind := some k, current := some current } }

theorem hyps_UrgentCommandsAndTheEndOfJoining :
    (∀ st ∈ [StationState.idle, .running, .held, .halted], ∀ k ∈ [UrgentKind.skip, .hold, .resume, .flush],
      let s := urged st k
      s.NextReaches (s.n - 20) ∧ ¬ (s.sup.station = .joining ∧ s.sup.joiningCount = 2) ∧ s.exec.urgent = some k
        ∧ s.exec.current ≠ none ∧ s.sup.haltAsserted = false
        ∧ ∀ z ∈ ZoneId.list, (s.zones.zones.get z).tripped = false)
    ∧ (let s := sequence .joining [];
      s.NextReaches (s.n - 20) ∧ s.sup.station = .joining ∧ s.sup.joiningCount = 2 ∧ s.exec.urgent = none
        ∧ s.exec.current = none ∧ s.exec.queue = [] ∧ ∀ z ∈ ZoneId.list, (s.zones.zones.get z).tripped = false)
    ∧ ((setZone (sequence .joining []) .z5 { ZoneState.reset with tripped := true }).zones.zones.get .z5).tripped = true := by
  decide

theorem hyps_UrgentCommandsAndTheEndOfJoining_blocks :
    (∀ st ∈ [StationState.idle, .held], ∀ k ∈ [UrgentKind.hold, .resume, .flush], ∀ c ∈ [none, some current],
        ∀ l ∈ [{ boat .stalled (some 5) 0 .inward 600 with causes := ⟨decide (st = .held), false, false, false, false⟩ },
          boat .moving (some 5) 40 .inward 600],
      let s : State := withBoat (urged st k) l
      let u : State := { s with exec := { s.exec with current := c, queue := [segment] } }
      u.NextReaches (u.n - 20) ∧ u.exec.urgent = some k ∧ u.exec.current = c ∧ u.sup.station = st
        ∧ u.sup.haltAsserted = false ∧ ¬ (u.sup.station = .joining ∧ u.sup.joiningCount = 2)
        ∧ ∀ z ∈ ZoneId.list, (u.zones.zones.get z).tripped = false)
    ∧ (let s := sequence .joining [segment];
      s.NextReaches (s.n - 20) ∧ s.sup.station = .joining ∧ s.sup.joiningCount = 2 ∧ s.exec.urgent = none
        ∧ s.exec.current = none ∧ ∀ z ∈ ZoneId.list, (s.zones.zones.get z).tripped = false) := by decide

theorem hyps_UrgentCommandsAndTheEndOfJoining_skip :
    ∀ st ∈ [StationState.running, .held], ∀ l ∈ [boat .moving (some 5) 40 .inward 600, boat .moving (some 5) 0 .inward 600,
        boat .stalled (some 5) 0 .inward 600],
      let s := withBoat (urged st .skip) l
      s.NextReaches (s.n - 20) ∧ s.applyShadow.exec.current = some current ∧ current.record.boat ≠ none
        ∧ ((s.applyShadow.loader.addCause s.gas.established .skip).inMotion = true ↔ l.speed = 40) := by decide

/-- The claimants A, B, C, D, E and G of the first example of section 3.1. -/
def six : List Claimant := [⟨100, 300, 7⟩, ⟨100, 200, 7⟩, ⟨0, 250, 3⟩, ⟨0, 150, 3⟩, ⟨0, 50, 0⟩, ⟨150, 0, 12⟩]

theorem hyps_FirmStage :
    (six.map Claimant.firm).sum ≤ 350 ∧ 349 < (six.map Claimant.firm).sum ∧ 2 < six.length
      ∧ (six[2]'(by decide)).firm = 0 := by decide

theorem hyps_ExtraStage : (∀ c ∈ six, c.priority ≤ 15) ∧ (six.map Claimant.firm).sum ≤ 350 := by decide

theorem hyps_GrantsStayWithinTheLimit : 5 < six.length := by decide

theorem hyps_SharePositionComputesTheGrants : (phased .running 83).NextReaches ((phased .running 83).n - 16) := by decide

/-- Z3 of the example of section 5.3 at a control position: integral, curtailed flag, setpoint 9000, reading, boat. -/
def controlled (integral : Nat) (curtailed : Bool) (reading : Reading) (l : Loader) : State :=
  let s := phased .running 89
  { s with
    zones := { s.zones with zones := s.zones.zones.set .z3 { ZoneState.reset with integral := integral, curtailed := curtailed } }
    ramp := { s.ramp with zones := s.ramp.zones.set .z3 ⟨some 9000, none, none, .steady⟩ }
    scanner := { s.scanner with ct := s.scanner.ct.set .z3 reading }
    loader := l }

theorem hyps_ControlPositionAppliesTheLaw :
    (let s := controlled 302 true ⟨8960, .valid, 0⟩ (boat .moving (some 6000) 40 .inward 9500);
      s.NextReaches (s.n - 10) ∧ (s.store.zones.get .z3).inUse = true
        ∧ (s.ramp.zones.get .z3).setpoint = some 9000 ∧ (s.zones.zones.get .z3).tripped = false
        ∧ (s.zones.zones.get .z3).openHold = false ∧ (s.scanner.ct.get .z3).status = .valid
        ∧ (s.zones.zones.get .z3).curtailed = true ∧ s.loader.position = some 6000
        ∧ (s.store.zones.get .z3).spanStart ≤ 6000 ∧ 8999 < (s.store.zones.get .z3).spanEnd
        ∧ s.loader.direction = .inward ∧ s.loader.state = .moving ∧ (s.ramp.zones.get .z1).setpoint = none)
    ∧ (let s := controlled 308 true ⟨9040, .valid, 0⟩ (boat .moving (some 9000) 40 .inward 9500);
      ¬ (s.loader.position = some 8999) ∧ s.sup.station ≠ .halted ∧ s.timer.mains = .present)
    ∧ ((controlled 0 false ⟨9000, .fault, 0⟩ Loader.reset).scanner.ct.get .z3).status ≠ .valid
    ∧ ZoneConfig.reset.inUse = false := by decide

theorem hyps_ControlPositionSplitsThePower :
    (phased .running 89).NextReaches ((phased .running 89).n - 10)
      ∧ (phased .joining 89).NextReaches ((phased .joining 89).n - 10) := by decide

/-- A part with an incomplete gas part at its control position, under a nitrogen grant (section 7.4's example). -/
def purging (st : StationState) (grant : Nat) : State :=
  let s := phased st 89
  { s with
    sup := { s.sup with store := { conf with gas := ⟨30, 20, 20⟩ } }
    gas := { s.gas with part := ⟨true, 60, 30, 360000, 0, false⟩ }
    share := { s.share with nitrogenGrant := grant } }

theorem hyps_ControlPositionCommandsTheFlows :
    (let s := purging .running 55;
      s.NextReaches (s.n - 10) ∧ s.sup.station = .running ∧ s.gas.part.current = true ∧ s.gas.part.complete = false)
    ∧ (purging .joining 55).sup.station = .joining ∧ (phased .idle 89).gas.part.current = false := by decide

/-- A part whose scanner is at a channel, with these checks. -/
def scanning (s : State) (c : Channel) (half : SlotHalf) (isOpen : Option Bool) (cj ref : Check) : State :=
  { s with scanner := { s.scanner with channel := c, half := half, openJudged := isOpen, cjCheck := cj, refCheck := ref } }

theorem hyps_BurnoutTestsAndFlowConversions :
    (let s := scanning State.reset (.ct .z1) .settling none .pass .pass;
      (∃ z, s.scanner.channel = .ct z) ∧ s.scanner.half = .settling)
    ∧ (let s := scanning State.reset (.lt .z5) .converting (some false) .pass .pass;
      (∃ z, s.scanner.channel = .lt z) ∧ s.scanner.half = .converting)
    ∧ State.reset.scanner.channel = .cj
    ∧ (scanning State.reset .fp .settling none .pass .fail).scanner.channel = .fp
    ∧ (scanning (listening 0) .fc .settling none .pass .pass).scanner.channel = .fc :=
  ⟨⟨⟨.z1, rfl⟩, rfl⟩, ⟨⟨.z5, rfl⟩, rfl⟩, rfl, rfl, rfl⟩

/-- A part about to complete LT2, its channel judged closed or open. -/
def limit (st : StationState) (isOpen : Bool) (cj : Check) : State :=
  scanning (phased st 90) (.lt .z2) .converting (some isOpen) cj .pass

theorem hyps_LimitConversionsReadAndTrip :
    (∀ isOpen ∈ [true, false], ∀ cj ∈ [Check.pass, .fail, .untested], ∀ st ∈ [StationState.unconfigured, .running, .idle,
        .joining], let s := limit st isOpen cj;
      s.scanner.channel = .lt .z2 ∧ s.scanner.openJudged = some isOpen ∧ s.scanner.cjCheck = cj ∧ s.sup.station = st
        ∧ (s.zones.zones.get .z2).tripped = false)
    ∧ (∀ m ∈ [(15001 : Int), -1, 0, 15000, 9500, 9501], 15000 < m ∨ m < 0 ∨ (0 ≤ m ∧ m ≤ 15000))
    ∧ (conf.zones.get .z2).overLimit < 9501 ∧ ¬ (conf.zones.get .z2).overLimit < 9500 := by decide

theorem hyps_ControlConversionsHoldAndRecover :
    (scanning (phased .running 5) (.ct .z4) .converting (some true) .pass .pass).scanner.channel = .ct .z4 := by decide

theorem hyps_ChecksMarkTheReadings :
    (scanning State.reset .cj .settling none .untested .untested).scanner.channel = .cj
      ∧ (scanning State.reset .ref .settling none .pass .pass).scanner.channel = .ref
      ∧ (∀ m ∈ [(0 : Int), 700], 0 ≤ m ∧ m ≤ 700) ∧ (∀ m ∈ [(-1 : Int), 701], ¬ (0 ≤ m ∧ m ≤ 700))
      ∧ (∀ m ∈ [(480 : Int), 520], 480 ≤ m ∧ m ≤ 520) ∧ ∀ m ∈ [(479 : Int), 521], ¬ (480 ≤ m ∧ m ≤ 520) := by decide

/-- A loader at a place in the pattern of 100 and in the ten ticks. -/
def ticking (l : Loader) (pattern phase : Nat) : State :=
  withBoat (phased .running 20) { l with pattern := pattern, tickPhase := phase }

theorem hyps_MotionTicksIssueThePattern :
    (∀ t ∈ [0, 8], let s := ticking (boat .moving (some 5) 50 .inward 600) 1 t;
      s.loader.tickPhase < 9 ∧ 0 < s.loader.speed ∧ s.loader.speed ≤ 100 ∧ s.loader.state = .moving
        ∧ s.loader.speed * (2 - 1) / 100 < s.loader.speed * 2 / 100 ∧ s.loader.position = some 5
        ∧ s.loader.direction = .inward ∧ 5 + 1 < s.loader.part.target)
    ∧ (let s := ticking (boat .stopping (some 602) 100 .outward 600) 100 0;
      ¬ s.loader.pattern < 100 ∧ s.loader.speed * (1 - 1) / 100 < s.loader.speed * 1 / 100
        ∧ s.loader.direction = .outward ∧ s.loader.part.target + 1 < 602)
    ∧ (let s := ticking (boat .moving (some 599) 100 .inward 600) 7 3; 599 + 1 = s.loader.part.target)
    ∧ ¬ (ticking (boat .moving (some 5) 50 .inward 600) 2 0).loader.speed * (3 - 1) / 100 < 50 * 3 / 100
    ∧ (∀ n ∈ [1699, 1700], let s := ticking { boat .homing none 100 .outward 600 with homingTravel := n } 1 0;
      s.loader.position = none ∧ s.loader.state = .homing
        ∧ (s.loader.homingTravel < s.store.loader.stroke + 500 ↔ n = 1699))
    ∧ (ticking (boat .atRest (some 5) 0 .inward 5) 1 8).loader.speed = 0
    ∧ (ticking (boat .moving (some 5) 50 .inward 600) 1 9).loader.tickPhase = 9
    ∧ (let s := ticking (boat .stopping (some 601) 100 .outward 600) 7 3;
      s.loader.direction = .outward ∧ 601 = s.loader.part.target + 1)
    ∧ (∀ p ∈ [600, 601], (ticking (boat .moving (some p) 100 .inward 600) 7 3).loader.part.target ≤ p)
    ∧ (∀ p ∈ [600, 599], p ≤ (ticking (boat .moving (some p) 100 .outward 600) 7 3).loader.part.target) := by decide

/-- A MOVING loader at a speed update with one band in the table. -/
def banded (l : Loader) (b : Band) : State :=
  let s := ticking l 1 9
  { s with sup := { s.sup with store := { conf with bands := ⟨some b, none, none, none, none, none, none, none⟩ } } }

/-- What the tick of a speed update leaves at a place that is none. -/
def ticked (s : State) : State := after (exec .motionTick { s with loader := { s.loader with tickPhase := 0 } })

theorem hyps_SpeedUpdatesFollowTheAim :
    (ticking (boat .moving (some 5) 40 .inward 600) 1 8).loader.tickPhase ≠ 9
    ∧ (∀ d ∈ [Direction.inward, .outward], let s := ticking (boat .moving (some 590) 100 d 600) 1 9;
      s.loader.tickPhase = 9 ∧ (ticked s).loader.state = .moving
        ∧ (ticked s).loader.position = some (match d with | .inward => 591 | .outward => 590))
    ∧ (∀ p ∈ [300, 499], let s := banded (boat .moving (some p) 40 .inward 600) ⟨300, 500, 15⟩;
      s.store.bands.get 0 = some ⟨300, 500, 15⟩ ∧ (ticked s).loader.position = some p)
    ∧ (∀ p ∈ [299, 300],
      let s := banded { boat .moving (some p) 40 .inward 600 with approach := some ⟨0, 15⟩ } ⟨300, 500, 15⟩
      (ticked s).loader.approach = some ⟨0, 15⟩ ∧ s.store.bands.get 0 = some ⟨300, 500, 15⟩ ∧ (300 ≤ p ↔ p = 300))
    ∧ (let s := banded { boat .moving (some 5) 40 .inward 600 with approach := some ⟨3, 15⟩ } ⟨300, 500, 15⟩;
      (ticked s).loader.approach = some ⟨3, 15⟩ ∧ s.store.bands.get 3 = none)
    ∧ (ticked (ticking (boat .moving none 40 .inward 600) 1 9)).loader.position = none
    ∧ (ticked (ticking (boat .homing none 20 .outward 600) 1 9)).loader.state = .homing
    ∧ (∀ v ∈ [10, 11], ∀ c ∈ [(⟨true, false, false, false, false⟩ : StopCauses), ⟨false, false, false, false, false⟩],
      let s := ticking { boat .stopping (some 5) v .inward 600 with causes := c } 1 9
      (ticked s).loader.state = .stopping ∧ (s.store.loader.accel < (ticked s).loader.speed ↔ v = 11))
    ∧ (∀ st ∈ [LoaderState.atRest, .waitCurtain, .dwell, .stalled],
      (ticked (ticking (boat st (some 5) 0 .inward 600) 1 9)).loader.state = st)
    ∧ (let s := ticking (boat .moving (some 599) 100 .inward 600) 1 9; (ticked s).loader.state = .atRest) := by decide

theorem hyps_HomeSwitchFixesThePosition :
    (∀ g ∈ [0, 1], (withBoat State.reset (boat .homing none 20 .outward g)).loader.homeActive = false
      ∧ ((boat .moving (some 7) 20 .outward g).part.target = 0 ↔ g = 0))
    ∧ (∀ h ∈ [true, false],
      let l : Loader := { boat .stopping (some 7) 20 .outward 0 with causes := ⟨false, h, false, false, false⟩ }
      l.state = .stopping ∧ l.direction = .outward ∧ (l.causes = ⟨false, false, false, false, false⟩ ↔ h = false))
    ∧ (boat .moving (some 7) 20 .inward 9).direction = .inward
    ∧ ({ Loader.reset with homeActive := true } : Loader).homeActive = true := by decide

theorem hyps_HaltStopsTheStation :
    (∀ st ∈ [StationState.unconfigured, .joining, .halted], (station st).sup.haltAsserted = false)
    ∧ (∀ st ∈ [LoaderState.moving, .homing, .waitCurtain, .atRest, .stopping, .dwell, .stalled],
      (withBoat (station .running) (boat st (some 5) 40 .inward 600)).loader.causes.halt = false
        ∧ 0 < (boat st (some 5) 40 .inward 600).speed)
    ∧ ({ (station .halted).sup with haltAsserted := true } : Supervisor).haltAsserted = true := by decide

/-! The invariants' hypotheses are met by a part with a segment running, mid window, whose next command is given. -/

/-- A part in a run: JOINING over, a queue of one, the loader on its way, one zone firing. -/
def live (c : Instr) : State :=
  { phased .running 50 with
    pending := [c]
    exec := { Executor.reset with queue := [segment], current := some current, nextId := 22 }
    loader := boat .moving (some 5) 40 .inward 600
    gas := { Gas.reset with established := true }
    ramp := { Ramp.reset with zones := Ramp.reset.zones.set .z2 ⟨some 8003, some 8000, some 8010, .rising⟩ }
    zones := { ZoneControl.reset with zones := ZoneControl.reset.zones.set .z2 { ZoneState.reset with
      dutyRunning := 58, dutyNext := 55, fired := 29 } } }

/-- Taking the command in front of `live` is a step. -/
theorem live_steps (c : Instr) : ∃ t, step (live c) = .next t := by cases c <;> exact ⟨_, rfl⟩

theorem hyps_StepsKeepTimerAndHost : (live .motionTick).TimerInv ∧ (live .motionTick).HostInv := by
  unfold State.TimerInv State.HostInv; decide

theorem hyps_StepsKeepTheQueue : (live .sequencePosition).QueueInv :=
  ⟨by decide, by decide, by decide, by decide, rfl⟩

theorem hyps_StepsKeepTheLoaderInBounds : (live .motionTick).LoaderInv := by
  refine ⟨by unfold State.TimerInv; decide, ?_, by decide, by decide, by decide, ?_, fun h => absurd h (by decide)⟩
  · intro p h
    cases h
    decide
  · intro g hg b hb
    obtain rfl := List.mem_singleton.mp hg
    cases hb
    decide

theorem hyps_StepsKeepTheSetpointsInBounds : (live .windowStart).RampInv := by
  refine ⟨by unfold State.TimerInv; decide, ?_, ?_, ?_, fun h => absurd h (by decide)⟩
  · intro z
    cases z <;> first
      | trivial
      | exact ⟨8003, rfl, .inl (by decide)⟩
  · intro z p h
    (cases z <;> cases h); decide
  · intro z p h
    (cases z <;> cases h); decide

theorem hyps_StepsKeepTheFiringWithinTheDuty : (live .motionTick).FiringInv := by
  refine ⟨by unfold State.TimerInv; decide, ?_, ?_, fun h => absurd rfl h, fun h => absurd h (by decide)⟩
  · intro z; cases z <;> decide
  · intro _ z; cases z <;> decide

theorem hyps_StepsKeepTheBankLinkAndTheStopCauses :
    (live .motionTick).BankInv ∧ (live .motionTick).CauseInv ∧ (live .motionTick).loader.StopInv := by
  unfold State.BankInv State.CauseInv State.TimerInv Loader.StopInv; decide

theorem hyps_MotionBeginsUnderTheCurtain :
    (let s : State := { sequence .idle [segment] with
      loader := { Loader.reset with position := some 0 }, gas := { Gas.reset with established := true }
      pending := [.sequencePosition] }
    s.loader.inMotion = false ∧ (after (step s)).loader.inMotion = true)
    ∧ (let s : State := { ticking (boat .stopping (some 5) 10 .inward 600) 1 9 with
        gas := { Gas.reset with established := true }, pending := [.speedUpdate] };
      s.loader.state ≠ .homing ∧ s.loader.state ≠ .moving ∧ (after (step s)).loader.state = .moving) := by decide

theorem hyps_MotionBeginsUnderTheCurtain_invariant : (live .motionTick).MotionInv := by
  unfold State.MotionInv; decide

theorem hyps_PatternsSpreadExactly : (0 < 100 ∧ 37 ≤ 100 ∧ 0 < 37) ∧ (0 < 60 ∧ 60 ≤ 60) ∧ 0 ≤ 120 := by decide

/-! ### Small tests of one step

The source of each expected figure stands above its test. -/

/-- The reply after a step. -/
def replyOf (o : Host.Outcome State Fault Refusal) : ResultCode × List Byte :=
  ((after o).host.reply.result, (after o).host.reply.data)

/-- The reply slot after hard reset is a NOP's, every reading STALE of age 15 (R56, R170). -/
theorem test_hardReset :
    let t := after (exec (.hardReset 5) (phased .running 50))
    t.bank.ownNumber = 5 ∧ t.scanner.ct.z4 = ⟨0, .stale, 15⟩ ∧ t.host.reply = ⟨.ok, 1, .unconfigured, 0, []⟩ := by decide

/-- A hard reset with chip select asserted leaves DISCARDING (R169). -/
theorem test_hardReset_in_transaction :
    (after (exec (.hardReset 0) (inTransaction .receiving 9))).host.transaction = .discarding := by decide

/-- R168. -/
theorem test_transactionBegin :
    (after (exec .transactionBegin (inTransaction .idle 20))).host = { HostPort.reset with transaction := .receiving } := by
  decide

/-- R168: the 32nd byte is stored, the 33rd is not. -/
theorem test_byteTime_stores :
    (after (exec (.byteTime 0xA5) (inTransaction .receiving 31))).host.buffer.getD 31 0 = 0xA5
      ∧ (after (exec (.byteTime 0xA5) (inTransaction .receiving 32))).host.buffer = List.replicate 32 0 := by decide

/-- Section 12.1: the sixth byte of a FRAME_ERROR reply is the byte count. -/
theorem test_byteTime_clocks_out :
    let s := inTransaction .receiving 5
    (after (exec (.byteTime 0) { s with host := { s.host with reply := ⟨.frameError, 0x34, .running, 0x0200, [20]⟩ } })).host.dataOut
      = some 20 := by decide

/-- Section 11.5's example, step 2: 20 bytes. -/
theorem test_frameError : replyOf (exec .frameError (inTransaction .receiving 20)) = (.frameError, [20]) := by decide

/-- R169: after no byte the echoed code is 0. -/
theorem test_frameError_no_byte :
    let s := withCommand State.reset [0x34]
    (after (exec .frameError { s with host := { s.host with byteCount := 0 } })).host.reply.command = 0 := by decide

/-- R171: code 0x00. -/
theorem test_unknownCommand : replyOf (exec .unknownCommand (withCommand busy [0x00])) = (.unknown, []) := by decide

/-- R171: a code that names a command is not refused so. -/
theorem test_unknownCommand_known_code :
    exec .unknownCommand (withCommand busy [0x5E]) = .next (withCommand busy [0x5E]) := by rfl

/-- R170: the reply carries the station state. -/
theorem test_nop :
    (after (exec .nop (withCommand busy [0x01]))).host.reply = ⟨.ok, 0x01, .running, 0, []⟩ := by decide

/-- R159: 0xFFFF to 4095, count 9 to 8, mains code 2 to 1, priority 16 to 15. -/
theorem test_setBank_clamps :
    let o := exec .setBank (withCommand State.reset [0x10, 0xFF, 0xFF, 100, 9, 2, 16])
    (after o).store.bank = ⟨4095, 100, 8, 1, 15⟩ ∧ replyOf o = (.okClamped, [0x0F, 0xFF, 100, 8, 1, 15]) := by decide

/-- R70: zone Z3 of section 5.3's example. -/
theorem test_setZone :
    let o := exec .setZone (withCommand State.reset
      [0x11, 2, 1, 180, 40, 10, 0x2E, 0xE0, 0x25, 0x1C, 0x17, 0x70, 0x23, 0x28, 0, 120])
    (after o).store.zones.z3 = zone ∧ (replyOf o).1 = .ok := by decide

/-- R108: a curtain minimum of 60 above a curtain flow of 50. -/
theorem test_setGas_lowers_the_minimum :
    let o := exec .setGas (withCommand State.reset [0x12, 50, 60, 10])
    (after o).store.gas = ⟨50, 50, 10⟩ ∧ (replyOf o).1 = .okClamped := by decide

/-- R121: a stop step of 5 below the acceleration step of 10. -/
theorem test_setLoader_raises_the_stop_step :
    let o := exec .setLoader (withCommand State.reset [0x13, 0x27, 0x10, 50, 10, 5, 30])
    (after o).store.loader = ⟨10000, 50, 10, 10, 30⟩ ∧ (replyOf o).1 = .okClamped := by decide

/-- R122: a start after the end is not judged by the command. -/
theorem test_setBand :
    let o := exec .setBand (withCommand State.reset [0x14, 7, 1, 0, 200, 0, 100, 0])
    (after o).store.bands.e7 = some ⟨200, 100, 1⟩ ∧ (replyOf o).1 = .okClamped := by decide +kernel

/-- R161: JOINING and LISTENING; R16: 1200 is 4 × 256 + 176, so the signature is 4 + 176 + 150 + 4 + 0 - 256 = 78. -/
theorem test_start :
    let t := after (exec .start (starting conf))
    t.sup.station = .joining ∧ t.timer.timer = .listening ∧ t.bank.signature = 78 := by decide

/-- R160, code 3: two zones in use. -/
theorem test_start_too_few_zones :
    replyOf (exec .start (starting { conf with
      zones := ⟨zone, zone, ZoneConfig.reset, ZoneConfig.reset, ZoneConfig.reset⟩ })) = (.badConfig, [3, 2]) := by decide

/-- Section 12.1's record: thermal part with Z2 and Z3 to 8010, rate 60 and guard band 20, gas 40 fu and 3 L, a boat target
of 1300 clamped to the stroke of 1200, and a minimum duration of 5 (R142). -/
theorem test_append_reads_and_clamps :
    let o := exec .append (withCommand (station .idle)
      [0x20, 0x37, 0, 0, 0x1F, 0x4A, 0x1F, 0x4A, 0, 0, 0, 0, 0x03, 0xC0, 0x14, 40, 0, 3, 0x05, 0x14, 40, 0, 0, 0, 0, 5])
    (after o).exec.queue = [{ segment with id := 1, thermal := some ⟨⟨none, some 8010, some 8010, none, none⟩, 60, 20⟩ }]
      ∧ (after o).exec.nextId = 2 ∧ (replyOf o).1 = .okClamped := by decide +kernel

/-- R142: after id 65535 comes 1. -/
theorem test_append_id_wraps :
    (after (exec .append (withCommand { station .idle with exec := { Executor.reset with nextId := 65535 } } [0x20]))).exec.nextId
      = 1 := by decide

/-- R146: a rate, then a rate and a purge flow: the second rate and the purge flow stand. -/
theorem test_amend_merges :
    let s := { busy with exec := { busy.exec with shadow := ⟨some 30, none, none, some 20, none⟩ } }
    (after (exec .amend (withCommand s [0x21, 0x05, 0x07, 0x80, 0, 60]))).exec.shadow
      = ⟨some 120, none, some 60, some 20, none⟩ := by decide

/-- R148. -/
theorem test_urgent_busy :
    replyOf (exec .urgent (withCommand (urged .running .hold) [0x22, 1])) = (.urgentBusy, []) := by decide

/-- R148: the slot and the last urgent take the kind. -/
theorem test_urgent :
    let t := after (exec .urgent (withCommand (phased .running 50) [0x22, 4]))
    t.exec.urgent = some .flush ∧ t.exec.lastResult = .pending := by decide

/-- STATUS 0 of section 12.1: PHASED, mains present, round 0, count 37, last length 0, joining count 2, HALT released, bank
figures. -/
theorem test_readStatus :
    replyOf (exec .readStatus (withCommand (phased .running 37) [0x30, 0]))
      = (.ok, [2, 0, 0, 0, 37, 0, 0, 2, 0, 0x04, 0xB0, 150, 4, 0, 5]) := by decide

/-- ZONE 2 of section 12.1: STALE readings of age 15, nothing of a ramp. -/
theorem test_readZone :
    replyOf (exec .readZone (withCommand State.reset [0x31, 4, 2]))
      = (.ok, [0, 0, 0x4F, 0, 0, 0x4F, 0xFF, 0xFF, 0xFF, 0xFF, 0xFF, 0xFF, 0]) := by decide

/-- LOADER 0 of section 12.1 after hard reset (R123). -/
theorem test_readLoader :
    replyOf (exec .readLoader (withCommand State.reset [0x32, 0]))
      = (.ok, [0xFF, 0xFF, 0, 0, 0, 0, 0, 0xFF, 0, 0, 0, 0, 0, 1, 0, 0, 0, 0, 1, 0, 0, 0, 0, 0]) := by decide

/-- R30: an ABSENT entry. -/
theorem test_readPeer :
    replyOf (exec .readPeer (withCommand State.reset [0x33, 7])) = (.ok, [0, 0, 0, 0, 0, 1, 0, 0, 0, 0, 0, 0, 0, 0]) := by
  decide

/-- Section 12.1: the record of the queued segment, after its id. -/
theorem test_readQueue :
    replyOf (exec .readQueue (withCommand busy [0x34, 0, 1]))
      = (.ok, [0, 21, 0x37, 0xFF, 0xFF, 0x1F, 0x4A, 0x1F, 0x4A, 0xFF, 0xFF, 0xFF, 0xFF, 0x03, 0xC0, 0, 40, 0, 3, 0x04, 0xB0, 40,
          0, 0, 0, 0, 5]) := by decide

/-- Section 12.1: the outcome of segment 20, DONE after 2 windows. -/
theorem test_readOutcome :
    replyOf (exec .readOutcome (withCommand busy [0x35, 0])) = (.ok, [0, 20, 0, 0, 2, 0, 0, 0, 0, 0, 0, 0, 0, 0, 0]) := by decide

/-- A part with SEGMENT_DONE pending and a mask. -/
def noted (mask : BitVec 16) : State :=
  let s := phased .running 50
  { s with host := { s.host with reasons := 0x0200, mask := mask } }

/-- Section 11.5's example, step 5. -/
theorem test_clearReasons :
    let t := after (exec .clearReasons (withCommand (noted 0xFDF0) [0x40, 0x02, 0x00]))
    (noted 0xFDF0).attn = true ∧ t.host.reasons = 0 ∧ t.attn = false := by decide

/-- Section 11.5's example, step 4; unmaskable reasons named in the selection are ignored (R175). -/
theorem test_setMask :
    let o := exec .setMask (withCommand (noted 0xFFF0) [0x41, 0xFD, 0xFF])
    (noted 0xFFF0).attn = false ∧ (after o).attn = true ∧ replyOf o = (.ok, [0xFD, 0xF0]) := by decide

/-- R144. -/
theorem test_setLowMark :
    replyOf (exec .setLowMark (withCommand State.reset [0x42, 16])) = (.okClamped, [15]) := by decide

/-- Section 5.7's example: 9420 is above 9400. -/
theorem test_resetTrip_too_hot :
    replyOf (exec .resetTrip (tripped ⟨9420, .valid, 0⟩)) = (.badState, []) := by decide

/-- Section 5.7's example: 9395, and the contactor closes. -/
theorem test_resetTrip :
    let o := exec .resetTrip (tripped ⟨9395, .valid, 0⟩)
    (replyOf o).1 = .ok ∧ (after o).contactorClosed .z2 = true := by decide

/-- R164: HELD, with HOLD in the set in place of HALT. -/
theorem test_clearHalt :
    let s := withBoat (station .halted) { boat .atRest (some 5) 0 .inward 600 with causes := ⟨false, true, false, false, false⟩ }
    let t := after (exec .clearHalt (withCommand s [0x51]))
    t.sup.station = .held ∧ t.loader.causes = ⟨true, false, false, false, false⟩ ∧ t.loader.state = .atRest := by decide

/-- R23: a LEAVE with the signature of the last START; R166. -/
theorem test_restart :
    let s := phased .running 50
    let t := after (exec .restart (withCommand { s with bank := { s.bank with signature := 78 } } [0x5E]))
    t.bank.transmitBuffer = some ⟨0x650, false, [78]⟩ ∧ t.sup.station = .unconfigured ∧ t.bank.signature = 0 := by decide

/-- Section 1.4's example: 3 ms after the last substitute boundary. -/
theorem test_zeroCross_restores :
    let t := after (exec (.zeroCrossEdge 48000) (darkened (phased .running 20)))
    t.timer.mains = .present ∧ t.timer.windowCount = 20 := by decide

/-- R1: 22 ms is 2.2 half-cycles at 50 Hz. -/
theorem test_zeroCross_counts_two :
    (after (exec (.zeroCrossEdge 352000) (phased .running 37))).timer.windowCount = 39 := by decide

/-- Section 1.4's example. -/
theorem test_mainsLost :
    let t := after (exec .mainsLost (phased .running 37))
    t.timer.windowCount = 40 ∧ t.timer.mains = .lost ∧ t.host.reasons = 0x0004 ∧ t.zones.zones.z3.firingStopped = true := by
  decide

/-- Section 1.4's example: the control position is reached at count 90, and every duty is 0 (R80). -/
theorem test_substituteBoundary :
    let s := darkened (phased .running 89)
    let s := { s with zones := ⟨PerZone.all { ZoneState.reset with dutyNext := 40 }, 0, 0⟩ }
    let t := after (exec .substituteBoundary s)
    t.timer.windowCount = 90 ∧ t.zones.zones.z1.dutyNext = 0 := by decide

/-- Section 1.5's example. -/
theorem test_listeningEnd :
    (after (exec .listeningEnd { listening 99 with timer := { (listening 99).timer with
      listening := ⟨none, none, some ⟨61, 200⟩, none, none, none, some ⟨23, 201⟩, none⟩ } })).timer.firstStart
      = some ⟨137, 201⟩ := by decide

/-- Section 1.5's example. -/
theorem test_firstWindowStart :
    let t := after (exec .firstWindowStart starts)
    t.timer.timer = .phased ∧ t.timer.round = 201 ∧ t.timer.windowCount = 0 := by decide

/-- Section 1.7's shortened window: count 82, round 18; the share and control positions are raised first (R14). -/
theorem test_windowStart_adopts :
    let s := led (phased .running 81) 6
    let t := after (exec .windowStart { s with timer := { s.timer with round := 16 }, share := { s.share with capApplied := true } })
    t.timer.round = 18 ∧ t.timer.lastLength = 82 ∧ t.timer.windowCount = 0 ∧ t.share.capApplied = false := by decide

/-- R115: the window in which a part is taken does not count, whatever its flow was for; the next one does, 40 × 100. -/
theorem test_windowStart_counts_the_volume :
    (after (exec .windowStart (supplied true))).gas.part.volume = 0
      ∧ (after (exec .windowStart (supplied true))).gas.takenInWindow = false
      ∧ (after (exec .windowStart (supplied false))).gas.part.volume = 4000 := by decide

/-- Section 6.5's example, rounds 21 and 22: 7992 and 7987, then held with the cause CURTAILED. -/
theorem test_windowStart_ramps :
    let t := after (exec .windowStart (ramping 1 7990 7985 7991 7986 false))
    let u := after (exec .windowStart (ramping 2 7992 7987 7992 7985 true))
    t.ramp.zones.z2.setpoint = some 7992 ∧ t.ramp.zones.z3.setpoint = some 7987 ∧ t.ramp.pattern = 2
      ∧ u.ramp.zones.z3.setpoint = some 7987 ∧ u.ramp.causes = ⟨true, false, false, false⟩ ∧ u.ramp.pattern = 2 := by decide

/-- R18, R178: round 117 RUNNING with priority 5, firm 250 and extra 100, nitrogen 40 and 60. -/
theorem test_ownSlot :
    let s := phased .running 3
    let t := after (exec .ownSlot { s with
      timer := { s.timer with round := 117 }
      zones := { s.zones with powerFirm := 250, powerExtra := 100 }
      gas := { s.gas with nitrogenFirm := 40, nitrogenExtra := 60 } })
    t.bank.transmitBuffer = some ⟨0x640, false, [117, 0x35, 0x0F, 0xA0, 0x64, 40, 60, 0]⟩ := by decide

/-- R20. -/
theorem test_announceSent :
    let t := after (exec .announceSent { announcing with bank := { announcing.bank with unsent := 3, solo := true } })
    t.bank.record.status = .sent ∧ t.bank.unsent = 0 ∧ t.bank.solo = false ∧ t.bank.transmitBuffer = none := by decide

/-- R17: the buffer keeps its frame. -/
theorem test_transmitAttemptFail :
    (after (exec .transmitAttemptFail announcing)).bank.transmitBuffer.isSome = true := by decide

/-- R23. -/
theorem test_leaveSent :
    (after (exec .leaveSent { State.reset with bank := { State.reset.bank with pendingLeave := some 78 } })).bank.transmitBuffer
      = none := by decide

/-- Section 9.10's first sequence: segment 21 current, the loader MOVING IN, the queue at the mark (QUEUE_LOW). -/
theorem test_sequencePosition_starts :
    let s := sequence .idle [segment, segment]
    let t := after (exec .sequencePosition { s with
      exec := { s.exec with lowMark := 1 }
      loader := { s.loader with position := some 0 }
      gas := { s.gas with established := true } })
    t.sup.station = .running ∧ t.exec.queue.length = 1 ∧ t.loader.state = .moving ∧ t.loader.direction = .inward
      ∧ t.gas.part.target = 36000 ∧ t.host.reasons = 0x0400 := by decide

/-- R111, R115: a gas part taken as another one's segment ends: its volume is 0, and the running window is that of its taking. -/
theorem test_sequencePosition_takes_the_next_gas_part :
    let t := after (exec .sequencePosition (finishing .running current [segment]))
    t.gas.part = ⟨true, 40, 3, 36000, 0, false⟩ ∧ t.gas.takenInWindow = true := by decide

/-- Section 9.10's second sequence: the amend is applied, and a SKIP stops the boat. -/
theorem test_sequencePosition_skips :
    let s := urged .running .skip
    let t := after (exec .sequencePosition { s with
      exec := { s.exec with shadow := ⟨none, none, some 60, none, none⟩ }
      gas := { s.gas with part := ⟨true, 50, 10, 120000, 0, false⟩ }
      loader := boat .moving (some 5) 40 .inward 600 })
    t.gas.part.flow = 60 ∧ t.exec.shadow = AmendFields.absent ∧ t.exec.lastResult = .taken ∧ t.loader.state = .stopping
      ∧ t.loader.causes.skip = true ∧ t.exec.current.map CurrentSegment.skipPending = some true := by decide

/-- Station 1 of section 3.4's examples at its share position, with station 2's priority, and a duplicate hold. -/
def sharing (priority hold : Nat) : State :=
  let s := phased .running 83
  { s with bank := { s.bank with
      ownNumber := 1
      record := ⟨.sent, 90, ⟨.running, 5, 250, 0, 40, 80⟩, 0⟩
      duplicateHold := hold
      peers := ⟨⟨.fresh, true, 90, 0, ⟨.running, 5, 300, 400, 40, 60⟩, true⟩, PeerEntry.reset,
        ⟨.fresh, false, 89, 1, ⟨.running, priority, 200, 600, 0, 100⟩, true⟩,
        ⟨.stale, false, 80, 5, ⟨.running, 5, 310, 50, 40, 0⟩, true⟩, PeerEntry.reset, PeerEntry.reset, PeerEntry.reset,
        PeerEntry.reset⟩ } }

/-- Section 3.4's power and nitrogen examples. -/
theorem test_sharePosition :
    (after (exec .sharePosition (sharing 9 0))).share = ⟨250, 40, 250, 40, 250, 40, false, false, false⟩ := by decide

/-- Section 3.4's duplicate hold, seen from station 1 with 250 computed below the fallback share of 300: nitrogen 40 is cut to
37, which is short (R47, R48). -/
theorem test_sharePosition_under_a_hold :
    let t := after (exec .sharePosition (sharing 5 7))
    t.share = ⟨250, 37, 250, 40, 250, 37, false, true, true⟩ ∧ t.host.reasons = 0x1000 := by decide

/-- Section 5.3's example, rounds 41 and 43. -/
theorem test_controlPosition_law :
    let t := after (exec .controlPosition (controlled 302 true ⟨8960, .valid, 0⟩ (boat .moving (some 6400) 40 .inward 9500)))
    let u := after (exec .controlPosition (controlled 308 true ⟨9040, .valid, 0⟩ (boat .moving (some 9000) 40 .inward 9500)))
    (t.zones.zones.z3.integral, t.zones.zones.z3.demand, t.zones.zones.z3.powerDemand) = (302, 582, 105)
      ∧ (u.zones.zones.z3.integral, u.zones.zones.z3.demand, u.zones.zones.z3.powerDemand) = (304, 144, 26) := by decide

/-- Section 7.4's example: 30 and 25 under a grant of 55, and 24 and 0 under 24. -/
theorem test_controlPosition_flows :
    (after (exec .controlPosition (purging .running 55))).gas.next = ⟨30, 25, true⟩
      ∧ (after (exec .controlPosition (purging .running 24))).gas.next = ⟨24, 0, true⟩ := by decide

/-- Section 1.7's stretched window: station 1 at count 57, so the window ends at 143. -/
theorem test_announceArrival_stretches :
    let s := phased .running 57
    let s : State := { s with bank := { s.bank with ownNumber := 3 }, timer := { s.timer with round := 42, ownHeard := true } }
    let t := after (exec (.announceArrival ⟨0x641, false, [42, 0x35, 0x0F, 0xA0, 0x64, 40, 60, 0]⟩) s)
    t.endCount = 143 ∧ (t.bank.peers.get 1).agrees = false ∧ (t.bank.peers.get 1).figures.powerFirm = 250
      ∧ (t.bank.peers.get 1).figures.powerExtra = 100 ∧ t.host.reasons = 0x2000 := by decide

/-- R31: the own number, whatever the length. -/
theorem test_announceArrival_duplicate :
    let t := after (exec (.announceArrival ⟨0x640, false, []⟩) (phased .running 57))
    t.bank.duplicateHold = 10 ∧ t.host.reasons = 0x0008 := by decide

/-- Section 2.6's example: a LEAVE of a FRESH peer, its age kept. -/
theorem test_leaveArrival :
    let t := after (exec (.leaveArrival ⟨0x652, false, [0]⟩) (sharing 5 0))
    (t.bank.peers.get 2).presence = .absent ∧ (t.bank.peers.get 2).age = 1 ∧ t.host.reasons = 0x2000 := by decide

/-- R58, section 12.3: 20 kΩ is not above the threshold. -/
theorem test_burnoutTest :
    let s := scanning State.reset (.ct .z4) .settling none .pass .pass
    (after (exec (.burnoutTest 20000) s)).scanner.openJudged = some false
      ∧ (after (exec (.burnoutTest 20001) s)).scanner.openJudged = some true := by decide

/-- Section 4.3's example: REF 535 marks the readings. -/
theorem test_conversionComplete_ref :
    let s := scanning (phased .running 5) .ref .converting none .pass .pass
    let t := after (exec (.conversionComplete 535)
      { s with scanner := { s.scanner with ct := PerZone.all ⟨9000, .valid, 0⟩, fp := ⟨40, .valid, 0⟩ } })
    t.scanner.ref = ⟨535, .fault, 0⟩ ∧ t.scanner.ct.z1 = ⟨9000, .fault, 0⟩ ∧ t.scanner.fp = ⟨40, .fault, 0⟩
      ∧ t.host.reasons = 0x0020 ∧ t.scanner.channel = .ct .z1 := by decide

/-- Section 5.7's example: LT2 at 9512 trips Z2. -/
theorem test_conversionComplete_trips :
    let t := after (exec (.conversionComplete 9512) (setZone (limit .running false .pass) .z2
      { ZoneState.reset with dutyRunning := 58, dutyNext := 55, fired := 52 }))
    t.zones.zones.z2 = { ZoneState.reset with dutyRunning := 58, fired := 52, firingStopped := true, tripped := true }
      ∧ t.host.reasons = 0x0002 ∧ t.sup.station = .held ∧ t.contactorClosed .z2 = false := by decide

/-- R128: at speed 40 the steps fall at pattern positions 3, 5, 8, ..., so one at 3 and none at 4. -/
theorem test_motionTick :
    let t := after (exec .motionTick (ticking (boat .moving (some 5) 40 .inward 600) 2 0))
    let u := after (exec .motionTick (ticking (boat .moving (some 5) 40 .inward 600) 3 0))
    t.loader.position = some 6 ∧ t.loader.stepOut = true ∧ u.loader.position = some 5 ∧ u.loader.stepOut = false := by decide

/-- Section 8.11's push at U150: 10 remain, so braking begins and the speed falls from 40 to 30. -/
theorem test_speedUpdate_brakes :
    let t := after (exec .speedUpdate (ticking (boat .moving (some 590) 40 .inward 600) 100 9))
    t.loader.braking = true ∧ t.loader.speed = 30 ∧ t.loader.tickPhase = 0 := by decide

/-- Section 8.11's push at U149: 14 remain, and the speed stays 40. -/
theorem test_speedUpdate_cruises :
    let t := after (exec .speedUpdate (ticking (boat .moving (some 586) 40 .inward 600) 100 9))
    t.loader.braking = false ∧ t.loader.speed = 40 := by decide

/-- R124, R131: homing ends and the push begins. -/
theorem test_homeSwitchActivation :
    let t := after (exec .homeSwitchActivation (withBoat (phased .running 5) (boat .homing none 20 .outward 600)))
    t.loader.position = some 0 ∧ t.loader.state = .moving ∧ t.loader.direction = .inward ∧ t.loader.speed = 0 := by decide

/-- R124. -/
theorem test_homeSwitchRelease :
    (after (exec .homeSwitchRelease { State.reset with loader := { Loader.reset with homeActive := true } })) = State.reset := by
  decide

/-- R132, R163. -/
theorem test_haltAssert :
    let t := after (exec .haltAssert (withBoat (station .running) (boat .moving (some 5) 40 .inward 600)))
    t.sup.station = .halted ∧ t.loader.state = .stopping ∧ t.loader.causes.halt = true ∧ t.host.reasons = 0x0001 := by decide

/-- R163: the release ends nothing. -/
theorem test_haltRelease :
    let s := station .halted
    (after (exec .haltRelease { s with sup := { s.sup with haltAsserted := true } })).sup = ⟨.halted, 2, conf, false⟩ := by
  decide

/-- R169. -/
theorem test_chipSelectReleaseDiscarding :
    (after (exec .chipSelectReleaseDiscarding (inTransaction .discarding 7))).host.transaction = .idle
      ∧ exec .chipSelectReleaseDiscarding (inTransaction .receiving 7) = .next (inTransaction .receiving 7) :=
  ⟨rfl, rfl⟩

/-- Section 3.1's first example: 400, 300, 93, 56, 0 and 150. -/
theorem test_share_six : (shareComputation 1000 six).map Grant.total = [400, 300, 93, 56, 0, 150] := by decide

/-- Section 3.1's second example: 280, 233 and 186. -/
theorem test_share_oversubscribed :
    shareComputation 700 [⟨300, 9, 1⟩, ⟨250, 0, 2⟩, ⟨200, 5, 3⟩] = [⟨280, 0⟩, ⟨233, 0⟩, ⟨186, 0⟩] := by decide

/-- Section 5.6's example: duty 37 fires at 3, 6, 9, 11, 14 and not between. -/
theorem test_firing_pattern : ((List.range 14).filter fun i => firesAt 100 37 (i + 1)) = [2, 5, 8, 10, 13] := by decide

end Sys2Proof.Tests
end

section
/-! PROOFS. What a boundary's work leaves alone: reasons are only added, the timer runs on, and the station stays configured. -/

namespace Sys2Proof.Machine

/-! ### Reasons that are only added -/

/-- A host port differs from an earlier one at most by reasons added since. -/
def HostPort.RaisesTo (h k : HostPort) : Prop := ∃ r, k = { h with reasons := h.reasons ||| r }

theorem HostPort.RaisesTo.rfl {h : HostPort} : h.RaisesTo h := ⟨0, by simp⟩

theorem HostPort.RaisesTo.of_eq {h k : HostPort} (e : k = h) : h.RaisesTo k := e ▸ .rfl

theorem HostPort.RaisesTo.trans {h k l : HostPort} (a : h.RaisesTo k) (b : k.RaisesTo l) : h.RaisesTo l := by
  obtain ⟨r, rfl⟩ := a
  obtain ⟨q, rfl⟩ := b
  exact ⟨r ||| q, by simp [BitVec.or_assoc]⟩

/-- Only the reason set differs. -/
theorem HostPort.RaisesTo.eq_reasons {h k : HostPort} (a : h.RaisesTo k) : k = { h with reasons := k.reasons } := by
  obtain ⟨r, rfl⟩ := a
  rfl

/-- Reasons that are pending stay pending when others are added. -/
theorem or_keeps_reason {a m : BitVec 16} (r : BitVec 16) (p : a &&& m = m) : (a ||| r) &&& m = m := by
  refine BitVec.eq_of_getLsbD_eq fun i _ => ?_
  have hi := congrArg (BitVec.getLsbD · i) p
  simp only [BitVec.getLsbD_and, BitVec.getLsbD_or] at hi ⊢
  revert hi
  cases a.getLsbD i <;> cases m.getLsbD i <;> simp

theorem HostPort.RaisesTo.keeps_reason {h k : HostPort} {m : BitVec 16} (a : h.RaisesTo k) (p : h.reasons &&& m = m) :
    k.reasons &&& m = m := by
  obtain ⟨r, rfl⟩ := a
  exact or_keeps_reason r p

theorem State.raise_raises (s : State) (r : BitVec 16) : s.host.RaisesTo (s.raise r).host := ⟨r, rfl⟩

theorem State.raiseIf_raises (s : State) (c : Bool) (r : BitVec 16) : s.host.RaisesTo (s.raiseIf c r).host := by
  rw [s.raiseIf_eq c r]
  exact ⟨_, rfl⟩

/-! ### The executor and the host port -/

@[simp] theorem State.applyShadow_host (s : State) : s.applyShadow.host = s.host := by
  unfold State.applyShadow
  split <;> rfl

@[simp] theorem State.resume_host (s : State) : s.resume.host = s.host := by
  unfold State.resume
  simp only [State.removeCause_host, apply_ite State.host, State.setLoader_host, ite_self]
  rfl

@[simp] theorem State.takeSkip_host (s : State) : s.takeSkip.host = s.host := by
  unfold State.takeSkip
  split
  · split <;> rfl
  · rfl

@[simp] theorem State.takeHold_host (s : State) : s.takeHold.host = s.host := by
  unfold State.takeHold
  split <;> rfl

@[simp] theorem State.takeResume_host (s : State) : s.takeResume.host = s.host := by
  unfold State.takeResume
  split
  · exact s.resume_host
  · rfl

@[simp] theorem State.takeUrgent_host (s : State) : s.takeUrgent.host = s.host := by
  unfold State.takeUrgent
  split
  · rfl
  · exact s.takeSkip_host
  · exact s.takeHold_host
  · exact s.takeResume_host
  · rfl

@[simp] theorem State.takeThermal_host (s : State) (h : Option ThermalSpec) : (s.takeThermal h).host = s.host := by
  cases h <;> rfl

@[simp] theorem State.takeGas_host (s : State) (g : Option GasSpec) : (s.takeGas g).host = s.host := by
  cases g <;> rfl

theorem State.startHead_raises (s : State) (g : Segment) (rest : List Segment) :
    s.host.RaisesTo (s.startHead g rest).host := by
  refine HostPort.RaisesTo.trans (HostPort.RaisesTo.of_eq ?_) (State.raiseIf_raises _ _ _)
  simp

theorem State.endSegment_raises (s : State) (c : CurrentSegment) (r : SegmentResult) :
    s.host.RaisesTo (s.endSegment c r).host := ⟨reasonSegmentDone, rfl⟩

theorem State.afterEnd_raises (s : State) : s.host.RaisesTo s.afterEnd.host := by
  unfold State.afterEnd
  split
  · split
    · exact ⟨reasonQueueEmpty, rfl⟩
    · exact s.startHead_raises _ _
  · exact .rfl

theorem State.judgeSegment_raises (s : State) : s.host.RaisesTo s.judgeSegment.host := by
  unfold State.judgeSegment
  split
  · split
    · split
      · exact (s.endSegment_raises _ _).trans (State.afterEnd_raises _)
      · exact .rfl
    · split
      · exact (s.endSegment_raises _ _).trans (State.afterEnd_raises _)
      · exact .rfl
  · split
    · split
      · exact .rfl
      · exact (s.setStation .running).startHead_raises _ _
    · exact .rfl

theorem State.executorSequence_raises (s : State) : s.host.RaisesTo s.executorSequence.host :=
  (HostPort.RaisesTo.of_eq (by simp)).trans (State.judgeSegment_raises _)

@[simp] theorem State.endJoining_host (s : State) : s.endJoining.host = s.host := by
  unfold State.endJoining
  split
  · split <;> rfl
  · rfl

/-- Whichever of its two orders is taken, the sequence position only adds reasons. -/
theorem State.sequenceWork_raises (s : State) : s.host.RaisesTo s.sequenceWork.host := by
  unfold State.sequenceWork
  split
  · have ha : s.host.RaisesTo s.endJoining.executorSequence.host :=
      (HostPort.RaisesTo.of_eq s.endJoining_host).trans (State.executorSequence_raises _)
    have hb : s.host.RaisesTo s.executorSequence.endJoining.host :=
      s.executorSequence_raises.trans (HostPort.RaisesTo.of_eq (State.endJoining_host _))
    show s.host.RaisesTo (ite _ _ _ : State).host
    split
    · exact ha
    · split
      · exact ha
      · exact hb
  · exact s.executorSequence_raises

/-! ### States that run on -/

/-- `t` is a state that `s` has come to while it runs: reasons were only added, the timer neither stopped nor started, the
mains state and the configuration stayed, and so did the queue of commands. -/
structure State.RunsOn (s t : State) : Prop where
  host : s.host.RaisesTo t.host
  mains : t.timer.mains = s.timer.mains
  stopped : t.timer.timer = .stopped ↔ s.timer.timer = .stopped
  unconfigured : t.sup.station = .unconfigured ↔ s.sup.station = .unconfigured
  store : t.sup.store = s.sup.store
  pending : t.pending = s.pending

theorem State.RunsOn.rfl {s : State} : s.RunsOn s := ⟨.rfl, Eq.refl _, Iff.rfl, Iff.rfl, Eq.refl _, Eq.refl _⟩

theorem State.RunsOn.trans {s t u : State} (h : s.RunsOn t) (k : t.RunsOn u) : s.RunsOn u :=
  ⟨h.host.trans k.host, k.mains.trans h.mains, k.stopped.trans h.stopped, k.unconfigured.trans h.unconfigured,
    k.store.trans h.store, k.pending.trans h.pending⟩

/-- A state with the same timer, station and configuration, and the same queue, runs on. -/
theorem State.RunsOn.of_blocks {s t : State} (host : s.host.RaisesTo t.host) (timer : t.timer = s.timer)
    (unconfigured : t.sup.station = .unconfigured ↔ s.sup.station = .unconfigured) (store : t.sup.store = s.sup.store)
    (pending : t.pending = s.pending) : s.RunsOn t :=
  ⟨host, by rw [timer], by rw [timer], unconfigured, store, pending⟩

theorem State.SameElsewhere.runsOn {s t : State} (h : s.SameElsewhere t) (k : s.host.RaisesTo t.host) : s.RunsOn t :=
  .of_blocks k h.timer h.unconfigured h.store h.pending

theorem State.setLoader_runsOn (s : State) (v : Loader) : s.RunsOn (s.setLoader v) :=
  (s.setLoader_same v).runsOn .rfl

theorem State.setBank_runsOn (s : State) (v : BankLink) : s.RunsOn (s.setBank v) :=
  .of_blocks .rfl rfl Iff.rfl rfl rfl

theorem State.setScanner_runsOn (s : State) (v : Scanner) : s.RunsOn (s.setScanner v) :=
  .of_blocks .rfl rfl Iff.rfl rfl rfl

theorem State.setZones_runsOn (s : State) (v : ZoneControl) : s.RunsOn (s.setZones v) :=
  .of_blocks .rfl rfl Iff.rfl rfl rfl

theorem State.setGas_runsOn (s : State) (v : Gas) : s.RunsOn (s.setGas v) :=
  .of_blocks .rfl rfl Iff.rfl rfl rfl

theorem State.setExec_runsOn (s : State) (v : Executor) : s.RunsOn (s.setExec v) :=
  .of_blocks .rfl rfl Iff.rfl rfl rfl

theorem State.raise_runsOn (s : State) (r : BitVec 16) : s.RunsOn (s.raise r) :=
  (s.raise_same r).runsOn (s.raise_raises r)

theorem State.raiseIf_runsOn (s : State) (c : Bool) (r : BitVec 16) : s.RunsOn (s.raiseIf c r) :=
  (s.raiseIf_same c r).runsOn (s.raiseIf_raises c r)

/-- A timer that runs as before, under the same mains. -/
theorem State.setTimer_runsOn {s : State} {v : RoundTimer} (hm : v.mains = s.timer.mains)
    (ht : v.timer = .stopped ↔ s.timer.timer = .stopped) : s.RunsOn (s.setTimer v) :=
  ⟨.rfl, hm, ht, Iff.rfl, rfl, rfl⟩

theorem State.report_runsOn (s : State) : s.RunsOn s.report :=
  .of_blocks (.of_eq s.report_host) s.report_timer s.report_unconfigured s.report_store s.report_pending

theorem State.loaderStalled_runsOn (s : State) : s.RunsOn s.loaderStalled :=
  (s.raise_runsOn reasonLoaderFault).trans (State.report_runsOn _)

/-! ### The work of the positions -/

theorem State.ownSent_runsOn (s : State) : s.RunsOn s.ownSent := ⟨.rfl, rfl, Iff.rfl, Iff.rfl, rfl, rfl⟩

theorem State.slotWork_runsOn (s : State) : s.RunsOn s.slotWork := by
  unfold State.slotWork
  dsimp only
  split
  · exact (s.setBank_runsOn _).trans (State.ownSent_runsOn _)
  · exact s.setBank_runsOn _

theorem State.sequenceWork_runsOn (s : State) : s.RunsOn s.sequenceWork :=
  s.sequenceWork_same.runsOn s.sequenceWork_raises

theorem State.closeRound_runsOn (s : State) : s.RunsOn s.closeRound := by
  unfold State.closeRound
  dsimp only
  split
  · exact .rfl
  · exact (s.setBank_runsOn _).trans (State.raiseIf_runsOn _ _ _)

theorem State.shareUnitWork_runsOn (s : State) : s.RunsOn s.shareUnitWork := by
  unfold State.shareUnitWork
  refine State.RunsOn.trans ?_ (State.raiseIf_runsOn _ _ _)
  exact .of_blocks .rfl rfl Iff.rfl rfl rfl

theorem State.shareWork_runsOn (s : State) : s.RunsOn s.shareWork := s.closeRound_runsOn.trans (State.shareUnitWork_runsOn _)

theorem State.controlWork_runsOn (s : State) : s.RunsOn s.controlWork := .of_blocks .rfl rfl Iff.rfl rfl rfl

theorem State.doIf_runsOn {s : State} {f : State → State} (c : Bool) (h : s.RunsOn (f s)) : s.RunsOn (s.doIf c f) := by
  cases c
  · exact .rfl
  · exact h

theorem State.cutOffPositions_runsOn (s : State) (length : Nat) : s.RunsOn (s.cutOffPositions length) :=
  ((State.doIf_runsOn _ s.sequenceWork_runsOn).trans (State.doIf_runsOn _ (State.shareWork_runsOn _))).trans
    (State.doIf_runsOn _ (State.controlWork_runsOn _))

theorem State.raisePosition_runsOn (s : State) : s.RunsOn s.raisePosition := by
  unfold State.raisePosition
  simp only
  split
  · exact s.slotWork_runsOn
  split
  · exact s.sequenceWork_runsOn
  split
  · exact s.shareWork_runsOn
  split
  · exact s.controlWork_runsOn
  · exact .rfl

end Sys2Proof.Machine
end

section
/-! PROOFS. What the work of a window start leaves alone, in any of the orders that the manual leaves open, and how it counts the
ended window toward the current segment. -/

namespace Sys2Proof.Machine

/-! ### The work whose order is open -/

/-- The work of a window start whose order is open reaches ramp generator, curtain, loader, station state and the current
segment's counts, and nothing else. -/
structure State.SameButTube (s t : State) : Prop where
  runsOn : s.RunsOn t
  timer : t.timer = s.timer
  bank : t.bank = s.bank
  share : t.share = s.share
  scanner : t.scanner = s.scanner
  zones : t.zones = s.zones
  haltAsserted : t.sup.haltAsserted = s.sup.haltAsserted
  joiningCount : t.sup.joiningCount = s.sup.joiningCount
  next : t.gas.next = s.gas.next
  exec : t.exec = { s.exec with current := t.exec.current }

theorem State.SameButTube.rfl {s : State} : s.SameButTube s :=
  ⟨.rfl, Eq.refl _, Eq.refl _, Eq.refl _, Eq.refl _, Eq.refl _, Eq.refl _, Eq.refl _, Eq.refl _, Eq.refl _⟩

theorem State.SameButTube.trans {s t u : State} (h : s.SameButTube t) (k : t.SameButTube u) : s.SameButTube u :=
  ⟨h.runsOn.trans k.runsOn, k.timer.trans h.timer, k.bank.trans h.bank, k.share.trans h.share, k.scanner.trans h.scanner,
    k.zones.trans h.zones, k.haltAsserted.trans h.haltAsserted, k.joiningCount.trans h.joiningCount, k.next.trans h.next,
    by rw [k.exec, h.exec]⟩

theorem State.setRamp_sameButTube (s : State) (v : Ramp) : s.SameButTube (s.setRamp v) :=
  { (State.SameButTube.rfl : s.SameButTube s) with runsOn := (s.setRamp_same v).runsOn .rfl }

theorem State.setLoader_sameButTube (s : State) (v : Loader) : s.SameButTube (s.setLoader v) :=
  { (State.SameButTube.rfl : s.SameButTube s) with runsOn := s.setLoader_runsOn v }

theorem State.setCurrent_sameButTube (s : State) (c : Option CurrentSegment) :
    s.SameButTube (s.setExec { s.exec with current := c }) :=
  { (State.SameButTube.rfl : s.SameButTube s) with runsOn := s.setExec_runsOn _, exec := Eq.refl _ }

theorem State.setGas_sameButTube {s : State} {v : Gas} (h : v.next = s.gas.next) : s.SameButTube (s.setGas v) :=
  { (State.SameButTube.rfl : s.SameButTube s) with runsOn := s.setGas_runsOn v, next := h }

theorem State.raiseIf_sameButTube (s : State) (c : Bool) (r : BitVec 16) : s.SameButTube (s.raiseIf c r) := by
  constructor <;> simp [State.raiseIf_runsOn]

theorem State.report_sameButTube (s : State) : s.SameButTube s.report where
  runsOn := s.report_runsOn
  timer := by simp
  bank := by simp
  share := by simp
  scanner := by simp
  zones := by simp
  haltAsserted := by
    rw [s.report_eq]
    split <;> rfl
  joiningCount := by
    rw [s.report_eq]
    split <;> rfl
  next := by simp
  exec := by simp

theorem State.rampStep_sameButTube (s : State) : s.SameButTube s.rampStep := by
  unfold State.rampStep
  split
  · dsimp only
    split
    · split
      · exact (s.setRamp_sameButTube _).trans (State.setCurrent_sameButTube _ _)
      · exact s.setRamp_sameButTube _
    · exact s.setRamp_sameButTube _
  · exact s.setRamp_sameButTube _

theorem State.establishCurtain_sameButTube (s : State) : s.SameButTube s.establishCurtain :=
  (State.setGas_sameButTube (by rfl)).trans (State.setLoader_sameButTube _ _)

theorem State.loseCurtain_sameButTube (s : State) : s.SameButTube s.loseCurtain :=
  ((State.setGas_sameButTube (by rfl)).trans (State.raiseIf_sameButTube _ _ _)).trans (State.setLoader_sameButTube _ _)

theorem State.judgeCurtain_sameButTube (s : State) : s.SameButTube s.judgeCurtain := by
  unfold State.judgeCurtain
  dsimp only
  split
  · split
    · exact State.setGas_sameButTube rfl
    · exact s.establishCurtain_sameButTube
  · exact State.setGas_sameButTube rfl
  · exact State.setGas_sameButTube rfl
  · split
    · exact State.setGas_sameButTube rfl
    · exact s.loseCurtain_sameButTube

theorem State.countWindow_sameButTube (s : State) : s.SameButTube s.countWindow := by
  unfold State.countWindow
  split
  · split
    · exact s.setCurrent_sameButTube _
    · split
      · exact s.setCurrent_sameButTube _
      · exact .rfl
  · exact .rfl

theorem State.loaderStalled_sameButTube (s : State) : s.SameButTube s.loaderStalled :=
  (s.raiseIf_sameButTube true reasonLoaderFault).trans (State.report_sameButTube _)

theorem State.dwellWork_sameButTube (s : State) : s.SameButTube s.dwellWork := by
  unfold State.dwellWork
  dsimp only
  split
  · exact (s.setLoader_sameButTube _).trans (State.loaderStalled_sameButTube _)
  · exact s.setLoader_sameButTube _

theorem State.doIf_sameButTube {s : State} {f : State → State} (c : Bool) (h : s.SameButTube (f s)) :
    s.SameButTube (s.doIf c f) := by
  cases c
  · exact .rfl
  · exact h

/-- Ramp step, curtain judgement and window count, each of them done or not. -/
theorem State.doIfs_sameButTube (ramp curtain count : Bool) (s : State) :
    s.SameButTube (((s.doIf ramp State.rampStep).doIf curtain State.judgeCurtain).doIf count State.countWindow) :=
  ((State.doIf_sameButTube ramp s.rampStep_sameButTube).trans
    (State.doIf_sameButTube curtain (State.judgeCurtain_sameButTube _))).trans
    (State.doIf_sameButTube count (State.countWindow_sameButTube _))

theorem State.orderedWork_sameButTube (o : WindowOrder) (s : State) : s.SameButTube (s.orderedWork o) :=
  ((s.doIfs_sameButTube o.rampFirst o.curtainFirst o.countFirst).trans (State.dwellWork_sameButTube _)).trans
    (State.doIfs_sameButTube _ _ _ _)

/-- Whatever the free value, the open work is done in one of the orders. -/
theorem State.openOrderWork_is_ordered (s : State) :
    ∃ o k, s.openOrderWork = (s.orderedWork o).setFreeIndex k := by
  unfold State.openOrderWork
  dsimp only
  split
  · exact ⟨⟨true, true, true⟩, _, rfl⟩
  split
  · exact ⟨⟨true, true, true⟩, _, rfl⟩
  · exact ⟨_, _, rfl⟩

theorem State.openOrderWork_sameButTube (s : State) : s.SameButTube s.openOrderWork := by
  obtain ⟨o, k, h⟩ := s.openOrderWork_is_ordered
  obtain ⟨⟨a, b, c, d, e, f⟩, g, h', i, j, l, m, n, p, q⟩ := s.orderedWork_sameButTube o
  rw [h]
  exact ⟨⟨a, b, c, d, e, f⟩, g, h', i, j, l, m, n, p, q⟩

/-! ### The count of the ended window (R152, R153) -/

/-- The two counts of a window start are taken in either order. -/
theorem CurrentSegment.afterWindow_comm (c : CurrentSegment) (st : StationState) (b : Bool) :
    (c.afterWindow .idle b).afterWindow st false = c.afterWindow st b
      ∧ (c.afterWindow st false).afterWindow .idle b = c.afterWindow st b := ⟨rfl, rfl⟩

@[simp] theorem CurrentSegment.afterWindow_record (c : CurrentSegment) (st : StationState) (b : Bool) :
    (c.afterWindow st b).record = c.record := rfl

theorem State.countWindow_current (s : State) :
    s.countWindow.exec.current = s.exec.current.map fun c => c.afterWindow s.sup.station false := by
  unfold State.countWindow
  cases hc : s.exec.current
  case none => simp [hc]
  case some c =>
    cases hs : s.sup.station <;> simp [hc, CurrentSegment.afterWindow, satAdd1_eq]

theorem State.rampStep_current (s : State) :
    s.rampStep.exec.current = s.exec.current.map fun c =>
      c.afterWindow .idle (s.ramp.partCurrent && c.record.thermal.isSome && s.rampStep.ramp.causes.curtailed) := by
  unfold State.rampStep
  cases hp : s.ramp.partCurrent
  case false => cases hc : s.exec.current <;> simp [hc, CurrentSegment.afterWindow]
  case true =>
    cases hc : s.exec.current
    case none => simp [hc]
    case some c =>
      by_cases h : (s.partStep s.sup.station).causes.curtailed = true ∧ c.record.thermal.isSome = true
      · simp [hc, h, CurrentSegment.afterWindow, satAdd1_eq]
      · have hb : ¬ (c.record.thermal.isSome = true ∧ (s.partStep s.sup.station).causes.curtailed = true) :=
          fun k => h k.symm
        simp [hc, h, hb, CurrentSegment.afterWindow]

@[simp] theorem State.rampStep_sup (s : State) : s.rampStep.sup = s.sup := by
  unfold State.rampStep
  split
  · dsimp only
    split
    · split <;> rfl
    · rfl
  · rfl

@[simp] theorem State.countWindow_sup (s : State) : s.countWindow.sup = s.sup := by
  unfold State.countWindow
  split
  · split
    · rfl
    · split <;> rfl
  · rfl

@[simp] theorem State.countWindow_ramp (s : State) : s.countWindow.ramp = s.ramp := by
  unfold State.countWindow
  split
  · split
    · rfl
    · split <;> rfl
  · rfl

/-- The curtain judgement reaches gas unit, loader and reason set. -/
theorem State.judgeCurtain_keeps (s : State) :
    s.judgeCurtain.sup = s.sup ∧ s.judgeCurtain.ramp = s.ramp ∧ s.judgeCurtain.exec = s.exec := by
  have lost : s.loseCurtain.sup = s.sup ∧ s.loseCurtain.ramp = s.ramp ∧ s.loseCurtain.exec = s.exec := by
    simp [State.loseCurtain]
  unfold State.judgeCurtain
  dsimp only
  split
  · split <;> exact ⟨rfl, rfl, rfl⟩
  · exact ⟨rfl, rfl, rfl⟩
  · exact ⟨rfl, rfl, rfl⟩
  · split
    · exact ⟨rfl, rfl, rfl⟩
    · exact lost

@[simp] theorem State.judgeCurtain_sup (s : State) : s.judgeCurtain.sup = s.sup := s.judgeCurtain_keeps.1
@[simp] theorem State.judgeCurtain_ramp (s : State) : s.judgeCurtain.ramp = s.ramp := s.judgeCurtain_keeps.2.1
@[simp] theorem State.judgeCurtain_exec (s : State) : s.judgeCurtain.exec = s.exec := s.judgeCurtain_keeps.2.2

/-- The dwell check reaches loader, station state and reason set. -/
theorem State.dwellWork_keeps (s : State) : s.dwellWork.ramp = s.ramp ∧ s.dwellWork.exec = s.exec := by
  unfold State.dwellWork
  dsimp only
  split <;> simp [State.loaderStalled]

@[simp] theorem State.dwellWork_ramp (s : State) : s.dwellWork.ramp = s.ramp := s.dwellWork_keeps.1
@[simp] theorem State.dwellWork_exec (s : State) : s.dwellWork.exec = s.exec := s.dwellWork_keeps.2

/-- The window is counted once, under the station state at one side of the dwell check, and once as curtailed if the ramp step
found it so. -/
theorem State.orderedWork_current (o : WindowOrder) (s : State) :
    (s.orderedWork o).exec.current = s.exec.current.map fun c =>
      c.afterWindow (if o.countFirst then s.sup.station else (s.orderedWork o).sup.station)
        (s.ramp.partCurrent && c.record.thermal.isSome && (s.orderedWork o).ramp.causes.curtailed) := by
  obtain ⟨rampFirst, curtainFirst, countFirst⟩ := o
  cases rampFirst <;> cases curtainFirst <;> cases countFirst <;>
    simp [State.orderedWork, State.doIf, State.countWindow_current, State.rampStep_current, Option.map_map,
      Function.comp_def, CurrentSegment.afterWindow_comm]

theorem State.openOrderWork_current (s : State) :
    ∃ st, (st = s.sup.station ∨ st = s.openOrderWork.sup.station) ∧ s.openOrderWork.exec.current = s.exec.current.map fun c =>
      c.afterWindow st (s.ramp.partCurrent && c.record.thermal.isSome && s.openOrderWork.ramp.causes.curtailed) := by
  obtain ⟨o, k, h⟩ := s.openOrderWork_is_ordered
  rw [h]
  refine ⟨if o.countFirst then s.sup.station else (s.orderedWork o).sup.station, ?_, s.orderedWork_current o⟩
  split
  · exact .inl rfl
  · exact .inr rfl

/-! ### The whole work of a window start -/

/-- The work of a window start up to that whose order is open. -/
def State.beforeOpenOrder (s : State) : State :=
  let s := s.bankWindowStart.handOverDuties
  (s.setScanner s.scanner.closeWindow).countVolume.judgeFlow

theorem State.windowBlocks_eq (s : State) : s.windowBlocks = s.beforeOpenOrder.openOrderWork.handOverFlows := rfl

/-- The judgement of the flow fault changes the fault's two items, and may raise FLOW_FAULT. -/
theorem State.judgeFlow_eq (s : State) :
    ∃ n b c, s.judgeFlow
      = (s.setGas { s.gas with faultCount := n, faultReported := b }).raiseIf c reasonFlowFault := by
  unfold State.judgeFlow
  dsimp only
  split
  · exact ⟨_, _, _, rfl⟩
  · exact ⟨0, false, false, rfl⟩

/-- A peer entry's ageing in one line per item (R29). -/
theorem PeerEntry.aged_eq (e : PeerEntry) :
    e.aged = { e with
      heard := false
      age := (if e.presence = .absent then e.age else min 255 (e.age + 1))
      presence := (if e.presence = .fresh ∧ e.age = 2 then .stale else e.presence) } := by
  unfold PeerEntry.aged
  cases h : e.presence <;> simp only [satAdd1_eq]
  case fresh =>
    have : min 255 (e.age + 1) = 3 ↔ e.age = 2 := by omega
    simp [this]
  all_goals simp

/-- The blocks that the work before the open order leaves, and those it has finished with. -/
structure State.WindowWork (s t : State) : Prop where
  runsOn : s.RunsOn t
  timer : t.timer = s.timer
  bank : t.bank = s.bankWindowStart.bank
  peerChange : (∃ i, (s.bank.peers.get i).presence = .fresh ∧ (s.bank.peers.get i).age = 2) →
    t.host.reasons &&& 0x2000 = 0x2000
  share : t.share = s.share
  scanner : t.scanner = s.scanner.closeWindow
  zones : t.zones = s.handOverDuties.zones
  haltAsserted : t.sup.haltAsserted = s.sup.haltAsserted
  joiningCount : t.sup.joiningCount = s.sup.joiningCount
  next : t.gas.next = s.gas.next
  exec : t.exec = { s.exec with current := t.exec.current }

theorem State.WindowWork.andTube {s t u : State} (h : s.WindowWork t) (k : t.SameButTube u) : s.WindowWork u where
  runsOn := h.runsOn.trans k.runsOn
  timer := k.timer.trans h.timer
  bank := k.bank.trans h.bank
  peerChange := fun hi => k.runsOn.host.keeps_reason (h.peerChange hi)
  share := k.share.trans h.share
  scanner := k.scanner.trans h.scanner
  zones := k.zones.trans h.zones
  haltAsserted := k.haltAsserted.trans h.haltAsserted
  joiningCount := k.joiningCount.trans h.joiningCount
  next := k.next.trans h.next
  exec := by rw [k.exec, h.exec]

/-- A FRESH entry that ages to 3 raises PEER_CHANGE (R29). -/
theorem State.bankWindowStart_peerChange {s : State}
    (h : ∃ i, (s.bank.peers.get i).presence = .fresh ∧ (s.bank.peers.get i).age = 2) :
    s.bankWindowStart.host.reasons &&& 0x2000 = 0x2000 := by
  obtain ⟨i, hp, ha⟩ := h
  have any : (eightNumbers.any fun i => decide ((s.bank.peers.get i).presence = .fresh)
      && decide (((PerEight.ofFn fun i => (s.bank.peers.get i).aged).get i).presence = .stale)) = true := by
    rw [List.any_eq_true]
    exact ⟨i, mem_eightNumbers i, by simp [PeerEntry.aged_eq, hp, ha]⟩
  unfold State.bankWindowStart
  simp only [any]
  show (s.host.reasons ||| reasonPeerChange) &&& 0x2000 = 0x2000
  rw [BitVec.or_comm]
  exact or_keeps_reason _ (by decide)

theorem State.bankWindowStart_windowWork (s : State) :
    s.WindowWork (s.bankWindowStart.handOverDuties.setScanner s.scanner.closeWindow) where
  runsOn := ((((s.setBank_runsOn _).trans (State.raiseIf_runsOn _ _ _)).trans (State.setZones_runsOn _ _)).trans
    (State.setScanner_runsOn _ _))
  timer := by simp [State.handOverDuties, State.mapZones, State.bankWindowStart]
  bank := by simp [State.handOverDuties, State.mapZones]
  peerChange := fun h => State.bankWindowStart_peerChange h
  share := by simp [State.handOverDuties, State.mapZones, State.bankWindowStart]
  scanner := by simp
  zones := by simp [State.handOverDuties, State.mapZones, State.bankWindowStart]
  haltAsserted := by simp [State.handOverDuties, State.mapZones, State.bankWindowStart]
  joiningCount := by simp [State.handOverDuties, State.mapZones, State.bankWindowStart]
  next := by simp [State.handOverDuties, State.mapZones, State.bankWindowStart]
  exec := by simp [State.handOverDuties, State.mapZones, State.bankWindowStart]

theorem State.countVolume_sameButTube (s : State) : s.SameButTube s.countVolume := State.setGas_sameButTube rfl

theorem State.judgeFlow_sameButTube (s : State) : s.SameButTube s.judgeFlow := by
  obtain ⟨n, b, c, h⟩ := s.judgeFlow_eq
  rw [h]
  exact (State.setGas_sameButTube (by rfl)).trans (State.raiseIf_sameButTube _ _ _)

theorem State.beforeOpenOrder_windowWork (s : State) : s.WindowWork s.beforeOpenOrder := by
  have hs : s.bankWindowStart.handOverDuties.scanner = s.scanner := by
    simp [State.handOverDuties, State.mapZones, State.bankWindowStart]
  unfold State.beforeOpenOrder
  dsimp only
  rw [hs]
  exact (s.bankWindowStart_windowWork.andTube (State.countVolume_sameButTube _)).andTube (State.judgeFlow_sameButTube _)

/-- The work before the open order leaves station, executor and ramp generator as it found them. -/
theorem State.beforeOpenOrder_keeps (s : State) :
    s.beforeOpenOrder.sup = s.sup ∧ s.beforeOpenOrder.exec = s.exec ∧ s.beforeOpenOrder.ramp = s.ramp := by
  unfold State.beforeOpenOrder
  dsimp only
  obtain ⟨n, b, c, h⟩ := State.judgeFlow_eq
    (s.bankWindowStart.handOverDuties.setScanner s.bankWindowStart.handOverDuties.scanner.closeWindow).countVolume
  rw [h]
  simp [State.countVolume, State.handOverDuties, State.mapZones, State.bankWindowStart]

theorem State.WindowWork.handOverFlows {s t : State} (h : s.WindowWork t) : s.WindowWork t.handOverFlows := by
  obtain ⟨⟨host, mains, stopped, unconfigured, store, pending⟩, timer, bank, peerChange, share, scanner, zones, halt, joining,
    next, exec⟩ := h
  exact ⟨⟨host, mains, stopped, unconfigured, store, pending⟩, timer, bank, peerChange, share, scanner, zones, halt, joining,
    next, exec⟩

theorem State.windowBlocks_windowWork (s : State) : s.WindowWork s.windowBlocks :=
  (s.beforeOpenOrder_windowWork.andTube (State.openOrderWork_sameButTube _)).handOverFlows

/-- The flows commanded for the window are handed over, and no part is yet taken in it (R113, R115). -/
theorem State.windowBlocks_flows (s : State) :
    s.windowBlocks.gas.running = s.gas.next ∧ s.windowBlocks.gas.takenInWindow = false :=
  ⟨(State.openOrderWork_sameButTube _).next.trans s.beforeOpenOrder_windowWork.next, rfl⟩

/-- The ended window is counted toward the current segment, under the station state before or after the dwell check. -/
theorem State.windowBlocks_current (s : State) :
    ∃ st, (st = s.sup.station ∨ st = s.windowBlocks.sup.station) ∧ s.windowBlocks.exec.current = s.exec.current.map fun c =>
      c.afterWindow st (s.ramp.partCurrent && c.record.thermal.isSome && s.windowBlocks.ramp.causes.curtailed) := by
  obtain ⟨hs, he, hr⟩ := s.beforeOpenOrder_keeps
  have h := s.beforeOpenOrder.openOrderWork_current
  rw [hs, he, hr] at h
  rw [s.windowBlocks_eq]
  generalize s.beforeOpenOrder.openOrderWork = u at h
  exact h

/-- What the bank link's window start leaves (R22, R29, R32). -/
theorem State.bankWindowStart_bank (s : State) :
    s.bankWindowStart.bank = { s.bank with
      record := { s.bank.record with status := .none }
      peers := PerEight.ofFn fun i => (s.bank.peers.get i).aged
      duplicateHold := s.bank.duplicateHold - 1 } := by
  simp [State.bankWindowStart]

/-! ### Window starts and boundaries run on -/

theorem State.countJoining_runsOn (s : State) : s.RunsOn s.countJoining := by
  unfold State.countJoining
  split
  · exact ⟨.rfl, rfl, Iff.rfl, Iff.rfl, rfl, rfl⟩
  · exact .rfl

theorem State.windowStartWork_runsOn (s : State) (length : Nat) : s.RunsOn (s.windowStartWork length) :=
  ((State.setTimer_runsOn (by rfl) (by rfl)).trans (State.countJoining_runsOn _)).trans
    (State.windowBlocks_windowWork _).runsOn

theorem State.firstWindowStartWork_runsOn {s : State} (round : Nat) (h : s.timer.timer ≠ .stopped) :
    s.RunsOn (s.firstWindowStartWork round) := by
  have ht : (s.timer.firstWindowStart round).timer = .stopped ↔ s.timer.timer = .stopped := by
    simp [RoundTimer.firstWindowStart, h]
  have timer : s.RunsOn (s.setTimer (s.timer.firstWindowStart round)) := State.setTimer_runsOn rfl ht
  exact timer.trans (State.windowBlocks_windowWork _).runsOn

theorem State.countUp_runsOn (s : State) : s.RunsOn s.countUp := State.setTimer_runsOn rfl Iff.rfl

theorem State.endListening_runsOn (s : State) : s.RunsOn s.endListening := by
  unfold State.endListening
  split
  · exact State.setTimer_runsOn rfl Iff.rfl
  · exact .rfl

theorem State.listeningBoundary_runsOn {s : State} (h : s.timer.timer ≠ .stopped) : s.RunsOn s.listeningBoundary := by
  have k := s.countUp_runsOn.trans s.countUp.endListening_runsOn
  have hk : s.countUp.endListening.timer.timer ≠ .stopped := fun e => h (k.stopped.1 e)
  unfold State.listeningBoundary
  dsimp only
  split
  · split
    · exact k.trans (State.firstWindowStartWork_runsOn _ hk)
    · exact k
  · exact k

theorem State.phasedBoundary_runsOn (s : State) : s.RunsOn s.phasedBoundary := by
  unfold State.phasedBoundary
  dsimp only
  split
  · exact (s.countUp_runsOn.trans (State.cutOffPositions_runsOn _ _)).trans (State.windowStartWork_runsOn _ _)
  · exact s.countUp_runsOn.trans (State.raisePosition_runsOn _)

theorem State.boundaryWork_runsOn (s : State) : s.RunsOn s.boundaryWork := by
  unfold State.boundaryWork
  split
  · exact .rfl
  · rename_i h
    exact State.listeningBoundary_runsOn (by simp [h])
  · exact s.phasedBoundary_runsOn

theorem State.mapZones_runsOn (s : State) (f : ZoneId → ZoneState → ZoneState) : s.RunsOn (s.mapZones f) := s.setZones_runsOn _

theorem State.boundary_runsOn (s : State) : s.RunsOn s.boundary := by
  unfold State.boundary
  dsimp only
  split
  · exact s.boundaryWork_runsOn.trans (State.mapZones_runsOn _ _)
  · exact s.boundaryWork_runsOn

theorem State.boundaries_runsOn (k : Nat) : ∀ s : State, s.RunsOn (State.boundaries k s) := by
  induction k with
  | zero => exact fun s => .rfl
  | succ k ih => exact fun s => s.boundary_runsOn.trans (ih _)

end Sys2Proof.Machine
end

section
/-! PROOFS. Every command keeps the bond between UNCONFIGURED and STOPPED and the host port's bounds. -/

namespace Sys2Proof.Machine

/-- From `s` to `t` both the timer's bond and the host port's bounds are kept, each by itself. -/
structure State.KeepsBounds (s t : State) : Prop where
  timer : s.TimerInv → t.TimerInv
  host : s.HostInv → t.HostInv

theorem State.KeepsBounds.rfl {s : State} : s.KeepsBounds s := ⟨id, id⟩

theorem State.KeepsBounds.trans {s t u : State} (h : s.KeepsBounds t) (k : t.KeepsBounds u) : s.KeepsBounds u :=
  ⟨k.timer ∘ h.timer, k.host ∘ h.host⟩

/-- A state that runs on keeps both: its reasons alone change in the host port. -/
theorem State.RunsOn.keepsBounds {s t : State} (h : s.RunsOn t) : s.KeepsBounds t where
  timer := fun k => h.unconfigured.trans (k.trans h.stopped.symm)
  host := fun k => by
    obtain ⟨r, hr⟩ := h.host
    unfold State.HostInv
    rw [hr]
    exact k

/-- Timer and station state stay, and of the host port the buffer, the byte count and the mask. -/
theorem State.KeepsBounds.of_eq {s t : State} (timer : t.timer = s.timer) (station : t.sup.station = s.sup.station)
    (buffer : t.host.buffer = s.host.buffer) (count : t.host.byteCount = s.host.byteCount) (mask : t.host.mask = s.host.mask) :
    s.KeepsBounds t where
  timer := by
    unfold State.TimerInv
    rw [timer, station]
    exact id
  host := by
    unfold State.HostInv
    rw [buffer, count, mask]
    exact id

/-! ### The host's commands -/

theorem State.reply_keepsBounds (s : State) (r : ResultCode) (data : List Byte) : s.KeepsBounds (s.reply r data) :=
  .of_eq rfl rfl rfl rfl rfl

theorem State.refuse_keepsBounds (s : State) (r : ResultCode) : s.KeepsBounds (s.refuse r) := s.reply_keepsBounds r []

theorem State.endTransaction_keepsBounds (s : State) : s.KeepsBounds s.endTransaction := .of_eq rfl rfl rfl rfl rfl

/-- A command keeps the bounds when its act does. -/
theorem State.command_keepsBounds {s : State} {code : Byte} {act : State → State} (h : ∀ u : State, u.KeepsBounds (act u)) :
    s.KeepsBounds (s.command code act) := by
  unfold State.command
  split
  · exact s.endTransaction_keepsBounds.trans (h _)
  · exact .rfl

theorem State.configure_keepsBounds (s : State) (r : ResultCode) (c : Store) (echo : List Byte) :
    s.KeepsBounds (s.configure r c echo) := by
  unfold State.configure
  split
  · exact .of_eq rfl rfl rfl rfl rfl
  · exact s.refuse_keepsBounds _

/-- An executor's change with its reply. -/
theorem State.setExec_reply_keepsBounds (s : State) (v : Executor) (r : ResultCode) (data : List Byte) :
    s.KeepsBounds ((s.setExec v).reply r data) :=
  (s.setExec_runsOn v).keepsBounds.trans (State.reply_keepsBounds _ _ _)

/-- An assertion of HALT leaves the timer, and a configured station configured (R163). -/
theorem State.halt_runsOn {s : State} (h : s.sup.station ≠ .unconfigured) : s.RunsOn s.halt := by
  unfold State.halt
  dsimp only
  split
  · exact s.raise_runsOn _
  · exact .of_blocks ⟨reasonHaltActive, rfl⟩ rfl (iff_of_false (show StationState.halted ≠ .unconfigured by decide) h) rfl rfl

/-- START leaves UNCONFIGURED and STOPPED together (R161). -/
theorem State.begin_keepsBounds (s : State) : s.KeepsBounds s.begin := by
  have started : ∀ u : State, u.sup.station = .joining → u.timer.timer = .listening → u.host = s.host →
      s.KeepsBounds (if u.sup.haltAsserted then u.halt else u) := by
    intro u hs ht hh
    have k : s.KeepsBounds u := ⟨fun _ => by simp [State.TimerInv, hs, ht], by unfold State.HostInv; rw [hh]; exact id⟩
    split
    · exact k.trans (State.halt_runsOn (by simp [hs])).keepsBounds
    · exact k
  exact started _ rfl rfl rfl

theorem execStart_keepsBounds {s t : State} (h : execStart s = .next t) : s.KeepsBounds t := by
  cases h
  refine State.command_keepsBounds fun u => ?_
  split
  · split
    · exact u.reply_keepsBounds _ _
    · exact u.begin_keepsBounds.trans (State.reply_keepsBounds _ _ _)
  · exact u.refuse_keepsBounds _

/-- RESTART makes the station UNCONFIGURED and the timer STOPPED, and masks every maskable reason (R166, R175). -/
theorem State.restart_keepsBounds (s : State) : s.KeepsBounds s.restart where
  timer := fun _ => ⟨fun _ => rfl, fun _ => rfl⟩
  host := fun ⟨hb, hc, _⟩ => ⟨hb, hc, show maskableReasons &&& ~~~maskableReasons = 0 by decide⟩

/-- Hard reset gives every item of both bounds its own value (R4, R170, R175). -/
theorem State.hardReset_keepsBounds (s : State) (straps : StationNo) : s.KeepsBounds (s.hardReset straps) where
  timer := fun _ => ⟨fun _ => rfl, fun _ => rfl⟩
  host := fun _ => ⟨rfl, Nat.zero_le _, show maskableReasons &&& ~~~maskableReasons = 0 by decide⟩

/-- SET_MASK stores maskable reasons only (R175). -/
theorem execSetMask_keepsBounds {s t : State} (h : execSetMask s = .next t) : s.KeepsBounds t := by
  cases h
  refine State.command_keepsBounds fun u => ⟨id, fun ⟨hb, hc, _⟩ => ⟨hb, hc, ?_⟩⟩
  show selectionOf u.host.buffer &&& maskableReasons &&& ~~~maskableReasons = 0
  rw [BitVec.and_assoc, show maskableReasons &&& ~~~maskableReasons = 0#16 by decide, BitVec.and_zero]
  rfl

theorem execResetTrip_keepsBounds {s t : State} (h : execResetTrip s = .next t) : s.KeepsBounds t := by
  cases h
  refine State.command_keepsBounds fun u => ?_
  dsimp only
  split
  · exact u.refuse_keepsBounds _
  · split
    · exact u.reply_keepsBounds _ _
    · split
      · exact (u.setZones_runsOn _).keepsBounds.trans (State.reply_keepsBounds _ _ _)
      · exact u.refuse_keepsBounds _

/-- CLEAR_HALT moves between two configured states (R164). -/
theorem execClearHalt_keepsBounds {s t : State} (h : execClearHalt s = .next t) : s.KeepsBounds t := by
  cases h
  refine State.command_keepsBounds fun u => ?_
  split
  · rename_i hu
    have held : u.RunsOn u.clearHaltToHeld :=
      .of_blocks .rfl rfl (iff_of_false (show StationState.held ≠ .unconfigured by decide) (by simp [hu.1])) rfl rfl
    exact held.keepsBounds.trans (State.reply_keepsBounds _ _ _)
  · exact u.refuse_keepsBounds _

theorem execUrgent_keepsBounds {s t : State} (h : execUrgent s = .next t) : s.KeepsBounds t := by
  cases h
  refine State.command_keepsBounds fun u => ?_
  dsimp only
  split
  · exact u.refuse_keepsBounds _
  · split
    · exact u.refuse_keepsBounds _
    · split
      · exact u.refuse_keepsBounds _
      · exact u.setExec_reply_keepsBounds _ _ _

theorem execAppend_keepsBounds {s t : State} (h : execAppend s = .next t) : s.KeepsBounds t := by
  cases h
  refine State.command_keepsBounds fun u => ?_
  dsimp only
  split
  · exact u.refuse_keepsBounds _
  · split
    · exact u.refuse_keepsBounds _
    · exact u.setExec_reply_keepsBounds _ _ _

theorem execAmend_keepsBounds {s t : State} (h : execAmend s = .next t) : s.KeepsBounds t := by
  cases h
  refine State.command_keepsBounds fun u => ?_
  dsimp only
  split
  · exact u.refuse_keepsBounds _
  · exact u.setExec_reply_keepsBounds _ _ _

theorem execSetZone_keepsBounds {s t : State} (h : execSetZone s = .next t) : s.KeepsBounds t := by
  cases h
  refine State.command_keepsBounds fun u => ?_
  dsimp only
  split
  · exact u.refuse_keepsBounds _
  · exact u.configure_keepsBounds _ _ _

theorem execSetBand_keepsBounds {s t : State} (h : execSetBand s = .next t) : s.KeepsBounds t := by
  cases h
  refine State.command_keepsBounds fun u => ?_
  dsimp only
  split
  · exact u.refuse_keepsBounds _
  · exact u.configure_keepsBounds _ _ _

theorem execReadZone_keepsBounds {s t : State} (h : execReadZone s = .next t) : s.KeepsBounds t := by
  cases h
  refine State.command_keepsBounds fun u => ?_
  split
  · exact u.refuse_keepsBounds _
  · exact u.reply_keepsBounds _ _

theorem execReadPeer_keepsBounds {s t : State} (h : execReadPeer s = .next t) : s.KeepsBounds t := by
  cases h
  refine State.command_keepsBounds fun u => ?_
  split
  · exact u.refuse_keepsBounds _
  · exact u.reply_keepsBounds _ _

/-! ### Transactions -/

theorem State.beginTransaction_keepsBounds (s : State) : s.KeepsBounds s.beginTransaction := by
  unfold State.beginTransaction
  split
  · exact ⟨id, fun ⟨hb, _, hm⟩ => ⟨hb, Nat.zero_le _, hm⟩⟩
  · exact .rfl

/-- A byte time stores a byte in its place, and the count saturates (R168). -/
theorem State.clockByte_keepsBounds (s : State) (b : Byte) : s.KeepsBounds (s.clockByte b) := by
  unfold State.clockByte
  split
  · exact .rfl
  · refine ⟨id, fun ⟨hb, _, hm⟩ => ⟨?_, ?_, hm⟩⟩
    · simp only [State.setHost_host]
      split
      · rw [List.length_set, hb]
      · exact hb
    · simp only [State.setHost_host, satAdd1_eq]
      omega
  · exact .of_eq rfl rfl rfl rfl rfl

theorem execFrameError_keepsBounds {s t : State} (h : execFrameError s = .next t) : s.KeepsBounds t := by
  cases h
  split
  · exact .of_eq rfl rfl rfl rfl rfl
  · exact .rfl

theorem execChipSelectReleaseDiscarding_keepsBounds {s t : State} (h : execChipSelectReleaseDiscarding s = .next t) :
    s.KeepsBounds t := by
  cases h
  split
  · exact s.endTransaction_keepsBounds
  · exact .rfl

theorem execUnknownCommand_keepsBounds {s t : State} (h : execUnknownCommand s = .next t) : s.KeepsBounds t := by
  cases h
  split
  · exact s.endTransaction_keepsBounds.trans (State.refuse_keepsBounds _ _)
  · exact .rfl

/-! ### The mains -/

/-- The mains state is none of the two bounds' business. -/
theorem State.setMains_keepsBounds (s : State) (m : MainsState) :
    s.KeepsBounds (s.setTimer { s.timer with mains := m }) := ⟨id, id⟩

theorem State.zeroCross_keepsBounds (s : State) (e : Nat) : s.KeepsBounds (s.zeroCross e) := by
  unfold State.zeroCross
  split
  · exact .rfl
  · split
    · dsimp only
      split
      · exact s.setMains_keepsBounds _
      · exact (s.setMains_keepsBounds _).trans (State.boundary_runsOn _).keepsBounds
    · split
      · exact s.boundary_runsOn.keepsBounds
      · split
        · exact .rfl
        · exact (State.boundaries_runsOn _ s).keepsBounds

theorem State.loseMains_keepsBounds (s : State) : s.KeepsBounds s.loseMains := by
  unfold State.loseMains
  split
  · refine (s.setMains_keepsBounds .lost).trans (State.RunsOn.keepsBounds ?_)
    exact ((((State.raise_runsOn _ _).trans (State.boundaryWork_runsOn _)).trans (State.boundaryWork_runsOn _)).trans
      (State.boundaryWork_runsOn _)).trans (State.mapZones_runsOn _ _)
  · exact .rfl

theorem State.substitute_runsOn (s : State) : s.RunsOn s.substitute := by
  unfold State.substitute
  split
  · exact s.boundary_runsOn
  · exact .rfl

/-- A position's row is a boundary, or nothing. -/
theorem State.boundary_if_runsOn (s : State) (c : Bool) : s.RunsOn (if c then s.boundary else s) := by
  cases c
  · exact .rfl
  · exact s.boundary_runsOn

/-! ### The bank line -/

theorem State.judgePhase_runsOn (s : State) (i : StationNo) (a : Announced) (equal : Bool) :
    s.RunsOn (s.judgePhase i a equal) := by
  unfold State.judgePhase
  split
  · exact ⟨.rfl, rfl, Iff.rfl, Iff.rfl, rfl, rfl⟩
  · exact .rfl

theorem State.recordListening_runsOn (s : State) (i : StationNo) (a : Announced) (equal : Bool) :
    s.RunsOn (s.recordListening i a equal) := by
  unfold State.recordListening
  split
  · exact State.setTimer_runsOn rfl Iff.rfl
  · exact .rfl

theorem State.acceptAnnounce_runsOn (s : State) (i : StationNo) (a : Announced) : s.RunsOn (s.acceptAnnounce i a) := by
  unfold State.acceptAnnounce
  dsimp only
  split
  · exact (((s.setBank_runsOn _).trans (State.raiseIf_runsOn _ _ _)).trans (State.raiseIf_runsOn _ _ _)).trans
      (State.judgePhase_runsOn _ _ _ _)
  · exact (((s.setBank_runsOn _).trans (State.raiseIf_runsOn _ _ _)).trans (State.raiseIf_runsOn _ _ _)).trans
      (State.recordListening_runsOn _ _ _ _)

theorem State.acceptLeave_runsOn (s : State) (i : StationNo) (signature : Nat) : s.RunsOn (s.acceptLeave i signature) := by
  unfold State.acceptLeave
  split
  · exact (s.setBank_runsOn _).trans (State.raiseIf_runsOn _ _ _)
  · exact s.raise_runsOn _

theorem State.announceFrom_runsOn (s : State) (i : StationNo) (data : List Byte) : s.RunsOn (s.announceFrom i data) := by
  unfold State.announceFrom
  split
  · exact .rfl
  · split
    · exact s.raise_runsOn _
    · split
      · exact s.acceptAnnounce_runsOn _ _
      · exact .rfl

theorem State.leaveFrom_runsOn (s : State) (i : StationNo) (data : List Byte) : s.RunsOn (s.leaveFrom i data) := by
  unfold State.leaveFrom
  split
  · split
    · exact s.raise_runsOn _
    · exact s.acceptLeave_runsOn _ _
  · exact .rfl

theorem State.duplicateFrame_runsOn (s : State) : s.RunsOn s.duplicateFrame :=
  (s.setBank_runsOn _).trans (State.raise_runsOn _ _)

theorem State.frameArrives_runsOn (s : State) (f : CanFrame) : s.RunsOn (s.frameArrives f) := by
  unfold State.frameArrives
  split
  · exact .rfl
  · split
    · exact .rfl
    · split
      · exact s.duplicateFrame_runsOn
      · exact s.announceFrom_runsOn _ _
    · split
      · exact s.duplicateFrame_runsOn
      · exact s.leaveFrom_runsOn _ _

theorem execAnnounceSent_runsOn {s t : State} (h : execAnnounceSent s = .next t) : s.RunsOn t := by
  cases h
  split
  · exact s.ownSent_runsOn
  · exact .rfl

/-! ### Scanner, loader and HALT line -/

theorem State.tripZone_runsOn (s : State) (z : ZoneId) : s.RunsOn (s.tripZone z) :=
  ((s.setZones_runsOn _).trans (State.raise_runsOn _ _)).trans (State.report_runsOn _)

theorem State.controlConverted_runsOn (s : State) (z : ZoneId) (r : Reading) : s.RunsOn (s.controlConverted z r) := by
  unfold State.controlConverted
  split
  · exact (s.setZones_runsOn _).trans (State.raiseIf_runsOn _ _ _)
  · exact .rfl

theorem State.limitConverted_runsOn (s : State) (z : ZoneId) (r : Reading) : s.RunsOn (s.limitConverted z r) := by
  unfold State.limitConverted
  split
  · exact s.tripZone_runsOn z
  · exact .rfl

theorem State.conversionComplete_runsOn (s : State) (m : Int) : s.RunsOn (s.conversionComplete m) := by
  unfold State.conversionComplete
  split
  · exact (s.setScanner_runsOn _).trans (State.controlConverted_runsOn _ _ _)
  · exact (s.setScanner_runsOn _).trans (State.limitConverted_runsOn _ _ _)
  · exact (s.setScanner_runsOn _).trans (State.raiseIf_runsOn _ _ _)
  · exact s.setScanner_runsOn _
  · exact s.setScanner_runsOn _
  · exact (s.setScanner_runsOn _).trans (State.raiseIf_runsOn _ _ _)

theorem State.tickSteps_runsOn (s : State) : s.RunsOn s.tickSteps := by
  unfold State.tickSteps
  dsimp only
  split
  · exact (s.setLoader_runsOn _).trans (State.loaderStalled_runsOn _)
  · exact s.setLoader_runsOn _

theorem State.motionTick_runsOn (s : State) : s.RunsOn s.motionTick := by
  unfold State.motionTick
  dsimp only
  split
  · exact s.tickSteps_runsOn.trans (State.setLoader_runsOn _ _)
  · exact (s.tickSteps_runsOn.trans (State.setLoader_runsOn _ _)).trans (State.setLoader_runsOn _ _)

theorem execSpeedUpdate_runsOn {s t : State} (h : execSpeedUpdate s = .next t) : s.RunsOn t := by
  cases h
  split
  · exact s.motionTick_runsOn
  · exact .rfl

theorem execHomeSwitchActivation_runsOn {s t : State} (h : execHomeSwitchActivation s = .next t) : s.RunsOn t := by
  cases h
  split
  · exact .rfl
  · exact s.setLoader_runsOn _

/-- HALT is taken only outside UNCONFIGURED (R163). -/
theorem execHaltAssert_runsOn {s t : State} (h : execHaltAssert s = .next t) : s.RunsOn t := by
  cases h
  split
  · exact .rfl
  · have line : s.RunsOn (s.setSup { s.sup with haltAsserted := true }) := .of_blocks .rfl rfl Iff.rfl rfl rfl
    dsimp only
    split
    · exact line
    · rename_i hs
      exact line.trans (State.halt_runsOn hs)

theorem execHaltRelease_runsOn {s t : State} (h : execHaltRelease s = .next t) : s.RunsOn t := by
  cases h
  exact .of_blocks .rfl rfl Iff.rfl rfl rfl

/-! ### Every command -/

/-- Every command keeps the timer's bond and the host port's bounds, each from itself alone. -/
theorem exec_keepsBounds (c : Instr) {s t : State} (h : exec c s = .next t) : s.KeepsBounds t := by
  cases c with
  | hardReset straps => cases h; exact s.hardReset_keepsBounds straps
  | transactionBegin => cases h; exact s.beginTransaction_keepsBounds
  | frameError => exact execFrameError_keepsBounds h
  | unknownCommand => exact execUnknownCommand_keepsBounds h
  | nop => cases h; exact State.command_keepsBounds fun u => u.reply_keepsBounds _ _
  | setBank => cases h; exact State.command_keepsBounds fun u => u.configure_keepsBounds _ _ _
  | setZone => exact execSetZone_keepsBounds h
  | setGas => cases h; exact State.command_keepsBounds fun u => u.configure_keepsBounds _ _ _
  | setLoader => cases h; exact State.command_keepsBounds fun u => u.configure_keepsBounds _ _ _
  | setBand => exact execSetBand_keepsBounds h
  | start => exact execStart_keepsBounds h
  | append => exact execAppend_keepsBounds h
  | amend => exact execAmend_keepsBounds h
  | urgent => exact execUrgent_keepsBounds h
  | readStatus => cases h; exact State.command_keepsBounds fun u => u.reply_keepsBounds _ _
  | readZone => exact execReadZone_keepsBounds h
  | readLoader => cases h; exact State.command_keepsBounds fun u => u.reply_keepsBounds _ _
  | readPeer => exact execReadPeer_keepsBounds h
  | readQueue => cases h; exact State.command_keepsBounds fun u => u.reply_keepsBounds _ _
  | readOutcome => cases h; exact State.command_keepsBounds fun u => u.reply_keepsBounds _ _
  | clearReasons => cases h; exact State.command_keepsBounds fun u => .of_eq rfl rfl rfl rfl rfl
  | setMask => exact execSetMask_keepsBounds h
  | setLowMark => cases h; exact State.command_keepsBounds fun u => u.setExec_reply_keepsBounds _ _ _
  | resetTrip => exact execResetTrip_keepsBounds h
  | clearHalt => exact execClearHalt_keepsBounds h
  | restart =>
    cases h
    exact State.command_keepsBounds fun u => u.restart_keepsBounds.trans (State.reply_keepsBounds _ _ _)
  | zeroCrossEdge e => cases h; exact s.zeroCross_keepsBounds e
  | mainsLost => cases h; exact s.loseMains_keepsBounds
  | substituteBoundary => cases h; exact s.substitute_runsOn.keepsBounds
  | listeningEnd => cases h; exact (s.boundary_if_runsOn _).keepsBounds
  | firstWindowStart => cases h; exact (s.boundary_if_runsOn _).keepsBounds
  | windowStart => cases h; exact (s.boundary_if_runsOn _).keepsBounds
  | ownSlot => cases h; exact (s.boundary_if_runsOn _).keepsBounds
  | announceSent => exact (execAnnounceSent_runsOn h).keepsBounds
  | transmitAttemptFail => cases h; exact .rfl
  | leaveSent => cases h; exact (s.setBank_runsOn _).keepsBounds
  | sequencePosition => cases h; exact (s.boundary_if_runsOn _).keepsBounds
  | sharePosition => cases h; exact (s.boundary_if_runsOn _).keepsBounds
  | controlPosition => cases h; exact (s.boundary_if_runsOn _).keepsBounds
  | announceArrival frame => cases h; exact (s.frameArrives_runsOn frame).keepsBounds
  | leaveArrival frame => cases h; exact (s.frameArrives_runsOn frame).keepsBounds
  | burnoutTest loopOhms => cases h; exact (s.setScanner_runsOn _).keepsBounds
  | conversionComplete measured => cases h; exact (s.conversionComplete_runsOn measured).keepsBounds
  | motionTick => cases h; exact s.motionTick_runsOn.keepsBounds
  | speedUpdate => exact (execSpeedUpdate_runsOn h).keepsBounds
  | homeSwitchActivation => exact (execHomeSwitchActivation_runsOn h).keepsBounds
  | haltAssert => exact (execHaltAssert_runsOn h).keepsBounds
  | haltRelease => exact (execHaltRelease_runsOn h).keepsBounds
  | homeSwitchRelease => cases h; exact (s.setLoader_runsOn _).keepsBounds
  | byteTime b => cases h; exact s.clockByte_keepsBounds b
  | chipSelectReleaseDiscarding => exact execChipSelectReleaseDiscarding_keepsBounds h

/-- A step keeps them: it idles, or runs the front command on the state with the queue's rest. -/
theorem step_keepsBounds {s t : State} (h : step s = .next t) : s.KeepsBounds t := by
  unfold step at h
  split at h
  · cases h
    exact .rfl
  · rename_i c rest _
    exact State.KeepsBounds.trans (t := s.setPending rest) ⟨id, id⟩ (exec_keepsBounds c h)

/-- Settles O53: each bound is kept by every command, and so by every step. -/
theorem stepsKeepTimerAndHost : Obligations.StepsKeepTimerAndHost := by
  intro s t hTimer hHost h
  exact ⟨(step_keepsBounds h).timer hTimer, (step_keepsBounds h).host hHost⟩

end Sys2Proof.Machine
end

section
/-! PROOFS. Which boundaries an edge, a substitute boundary and a position's row count, and what a boundary does that reaches
nothing. -/

namespace Sys2Proof.Machine

/-! ### Edges (R1, R7) -/

theorem State.zeroCross_stopped {s : State} (e : Nat) (h : s.timer.timer = .stopped) : s.zeroCross e = s := by
  simp [State.zeroCross, h]

theorem State.zeroCross_first {s : State} (e : Nat) (h : s.timer.timer ≠ .stopped) (hm : s.timer.mains = .present)
    (hb : s.timer.boundarySeen = false) : s.zeroCross e = s.boundary := by
  simp [State.zeroCross, h, hm, hb]

theorem State.zeroCross_noise {s : State} {e : Nat} (h : s.timer.timer ≠ .stopped) (hm : s.timer.mains = .present)
    (hb : s.timer.boundarySeen = true) (he : 6 * e < s.threeH) : s.zeroCross e = s := by
  simp [State.zeroCross, h, hm, hb, isNoise, he]

/-- e/h rounded to the nearest integer, a half rounded up. -/
theorem boundariesOf_eq {threeH e k : Nat} (hk : 1 ≤ k) (lo : (2 * k - 1) * threeH ≤ 6 * e)
    (hi : 6 * e < (2 * k + 1) * threeH) : boundariesOf threeH e = k := by
  obtain ⟨j, rfl⟩ : ∃ j, k = j + 1 := ⟨k - 1, by omega⟩
  have two : (2 * (j + 1) - 1) = 2 * j + 1 := by omega
  rw [two] at lo
  refine Nat.div_eq_of_lt_le ?_ ?_ <;> nlinarith

theorem State.zeroCross_counts {s : State} {e k : Nat} (h : s.timer.timer ≠ .stopped) (hm : s.timer.mains = .present)
    (hb : s.timer.boundarySeen = true) (hk : 1 ≤ k) (lo : (2 * k - 1) * s.threeH ≤ 6 * e)
    (hi : 6 * e < (2 * k + 1) * s.threeH) : s.zeroCross e = State.boundaries k s := by
  have loud : ¬ 6 * e < s.threeH := by
    have : 1 * s.threeH ≤ (2 * k - 1) * s.threeH := Nat.mul_le_mul_right _ (by omega)
    omega
  simp [State.zeroCross, h, hm, hb, isNoise, loud, boundariesOf_eq hk lo hi]

/-- The state with the mains present again. -/
def State.restored (s : State) : State := { s with timer := { s.timer with mains := .present } }

theorem State.zeroCross_restores_only {s : State} {e : Nat} (h : s.timer.timer ≠ .stopped) (hm : s.timer.mains = .lost)
    (he : 6 * e < s.threeH) : s.zeroCross e = s.restored := by
  simp [State.zeroCross, State.restored, State.setTimer, h, hm, isNoise, he]

theorem State.zeroCross_restores {s : State} {e : Nat} (h : s.timer.timer ≠ .stopped) (hm : s.timer.mains = .lost)
    (he : s.threeH ≤ 6 * e) : s.zeroCross e = s.restored.boundary := by
  simp only [State.zeroCross, if_neg h, hm, isNoise, decide_eq_true_eq, if_neg (Nat.not_lt.2 he)]
  rfl

/-- Settles O21: the branches of an edge, with the rounding of e/h for the last. -/
theorem zeroCrossEdgesCountBoundaries : Obligations.ZeroCrossEdgesCountBoundaries := by
  intro s e
  refine ⟨fun h => congrArg _ (s.zeroCross_stopped e h), fun h hm => ⟨fun hb => ?_, fun hb he => ?_, fun k hb hk lo hi => ?_⟩,
    fun h hm => ⟨fun he => ?_, fun he => ?_⟩⟩
  · exact congrArg _ (s.zeroCross_first e h hm hb)
  · exact congrArg _ (State.zeroCross_noise h hm hb he)
  · exact congrArg _ (State.zeroCross_counts h hm hb hk lo hi)
  · exact congrArg _ (State.zeroCross_restores_only h hm he)
  · exact congrArg _ (State.zeroCross_restores h hm he)

/-- An edge that counts one boundary, in a timer that runs (R1). -/
theorem State.zeroCross_one {s : State} {e : Nat} (h : s.timer.timer ≠ .stopped) (he : s.EdgeCountsOne e) :
    s.zeroCross e = s.boundary := by
  obtain ⟨hm, hb | ⟨lo, hi⟩⟩ := he
  · exact s.zeroCross_first e h hm hb
  · cases hb : s.timer.boundarySeen
    · exact s.zeroCross_first e h hm hb
    · exact State.zeroCross_counts (k := 1) h hm hb le_rfl (by omega) (by omega)

theorem State.substitute_lost {s : State} (h : s.timer.timer ≠ .stopped) (hm : s.timer.mains = .lost) :
    s.substitute = s.boundary := by
  simp [State.substitute, h, hm]

theorem State.substitute_none {s : State} (h : s.timer.timer = .stopped ∨ s.timer.mains = .present) : s.substitute = s := by
  rcases h with h | h <;> simp [State.substitute, h]

/-! ### Rows and their boundaries -/

/-- A row is the next boundary's when it performs that boundary, under the mains as it is and with the mains restored. -/
theorem nextBoundaryIs_of_rows {s : State} {row : Instr} (h : s.timer.timer ≠ .stopped)
    (here : exec row s = .next s.boundary) (there : exec row s.restored = .next s.restored.boundary) :
    s.NextBoundaryIs row := by
  refine ⟨fun hm => ?_, fun e => ⟨fun he => ?_, fun hm he => ?_⟩⟩
  · exact (congrArg _ (State.substitute_lost h hm)).trans here.symm
  · exact (congrArg _ (State.zeroCross_one h he)).trans here.symm
  · exact (congrArg _ (State.zeroCross_restores h hm he)).trans there.symm

/-- A position's row performs the boundary that reaches it (log entry 8). -/
theorem exec_row_of_reaches {s : State} {row : Instr} {p : Nat}
    (hr : (row, p) ∈ [(Instr.ownSlot, 4 + 10 * s.bank.ownNumber.val), (.sequencePosition, s.n - 20),
      (.sharePosition, s.n - 16), (.controlPosition, s.n - 10)]) (h : s.NextReaches p) :
    exec row s = .next s.boundary := by
  have due := State.positionDue_of_reaches h
  simp only [List.mem_cons, Prod.mk.injEq, List.not_mem_nil, or_false] at hr
  rcases hr with ⟨rfl, rfl⟩ | ⟨rfl, rfl⟩ | ⟨rfl, rfl⟩ | ⟨rfl, rfl⟩ <;> exact congrArg _ (if_pos due)

theorem exec_windowStart_of_ends {s : State} (h : s.EndsWindow) : exec .windowStart s = .next s.boundary :=
  congrArg _ (if_pos (by simp [State.windowStartDue, h.1, h.2]))

/-! ### A boundary that reaches nothing -/

/-- In the state `s`, whatever its count, the boundary at count `c` neither ends a window or listening nor reaches a position or
the first window start. -/
def State.PlainAt (s : State) (c : Nat) : Prop :=
  (s.timer.timer = .phased ∧ c < s.endCount
      ∧ ∀ p ∈ [4 + 10 * s.bank.ownNumber.val, s.n - 20, s.n - 16, s.n - 10], c ≠ p)
    ∨ (s.timer.timer = .listening ∧ (c ≠ s.n ∨ s.timer.firstStart ≠ none) ∧ ∀ r, s.timer.firstStart ≠ some ⟨c, r⟩)

/-- Away from the N-th boundary nothing is fixed. -/
theorem State.endListening_idle {s : State} (h : s.timer.windowCount ≠ s.n ∨ s.timer.firstStart ≠ none) :
    s.endListening = s := by
  unfold State.endListening
  rw [if_neg (by tauto)]

/-- A boundary in LISTENING at which nothing falls due is counted. -/
theorem State.listeningBoundary_plain {s : State} (h : s.timer.windowCount + 1 ≠ s.n ∨ s.timer.firstStart ≠ none)
    (hf : ∀ r, s.timer.firstStart ≠ some ⟨s.timer.windowCount + 1, r⟩) : s.listeningBoundary = s.counted := by
  unfold State.listeningBoundary
  rw [State.endListening_idle (s := s.countUp) h]
  cases hfs : s.timer.firstStart with
  | none =>
    have : s.countUp.timer.firstStart = none := hfs
    simp only [this]
    rfl
  | some f =>
    have hs : s.countUp.timer.firstStart = some f := hfs
    have hc : ¬ s.countUp.timer.windowCount = f.count := fun e =>
      hf f.round (hfs.trans (congrArg (fun c => some (FirstStart.mk c f.round)) e.symm))
    simp only [hs, if_neg hc]
    rfl

/-- The boundary at which nothing falls due is counted. -/
theorem State.boundaryWork_plain {s : State} (h : s.PlainAt (s.timer.windowCount + 1)) : s.boundaryWork = s.counted := by
  rcases h with ⟨hp, hc, hn⟩ | ⟨hl, hc, hf⟩
  · have hend : ¬ s.endCount ≤ s.countUp.timer.windowCount := Nat.not_le.2 hc
    simp only [State.boundaryWork, hp, State.phasedBoundary, hend, if_false]
    exact State.raisePosition_none (s := s.countUp) hn
  · simp only [State.boundaryWork, hl]
    exact State.listeningBoundary_plain hc hf

/-- While LISTENING such a boundary gates nothing. -/
theorem State.boundary_listening {s : State} (hl : s.timer.timer = .listening) (h : s.PlainAt (s.timer.windowCount + 1)) :
    s.boundary = s.counted := by
  have : s.counted.timer.timer ≠ .phased := by
    show s.timer.timer ≠ .phased
    simp [hl]
  unfold State.boundary
  rw [State.boundaryWork_plain h]
  exact if_neg this

/-! ### Positions' work and the half-cycle that begins -/

@[simp] theorem State.shareWork_timer (s : State) : s.shareWork.timer = s.timer := by rw [s.shareWork_eq]
@[simp] theorem State.shareWork_zones (s : State) : s.shareWork.zones = s.zones := by rw [s.shareWork_eq]
@[simp] theorem State.shareWork_sup (s : State) : s.shareWork.sup = s.sup := by rw [s.shareWork_eq]

/-- The sequence position's work with the half-cycle that begins at it. -/
theorem State.boundary_sequence {s : State} (h : s.NextReaches (s.n - 20)) :
    s.boundary = { s.counted.sequenceWork with zones := s.zonesFired } := by
  obtain ⟨hp, hc, hlt⟩ := h
  have same := s.counted.sequenceWork_same
  exact State.boundary_position hp (hc ▸ hlt) (s.countUp.raisePosition_cases.2.1 hc)
    ((congrArg RoundTimer.timer same.timer).trans hp) same.zones (congrArg RoundTimer.windowCount same.timer) same.store
    same.unconfigured

/-- The same of the share position. -/
theorem State.boundary_share {s : State} (h : s.NextReaches (s.n - 16)) :
    s.boundary = { s.counted.shareWork with zones := s.zonesFired } := by
  obtain ⟨hp, hc, hlt⟩ := h
  have timer := s.counted.shareWork_timer
  exact State.boundary_position hp (hc ▸ hlt) (s.countUp.raisePosition_cases.2.2.1 hc)
    ((congrArg RoundTimer.timer timer).trans hp) s.counted.shareWork_zones (congrArg RoundTimer.windowCount timer)
    (congrArg Supervisor.store s.counted.shareWork_sup) (by rw [s.counted.shareWork_sup]; rfl)

/-- The control law and the split leave what the firing decision of the running window reads, and what it writes. -/
structure ZoneState.SameFiring (v w : ZoneState) : Prop where
  dutyRunning : w.dutyRunning = v.dutyRunning
  fired : w.fired = v.fired
  firingStopped : w.firingStopped = v.firingStopped
  tripped : w.tripped = v.tripped
  gate : w.gate = v.gate

theorem ZoneState.SameFiring.trans {v w x : ZoneState} (h : v.SameFiring w) (k : w.SameFiring x) : v.SameFiring x :=
  ⟨k.dutyRunning.trans h.dutyRunning, k.fired.trans h.fired, k.firingStopped.trans h.firingStopped,
    k.tripped.trans h.tripped, k.gate.trans h.gate⟩

theorem State.controlLaw_sameFiring (s : State) (z : ZoneId) (v : ZoneState) : v.SameFiring (s.controlLaw z v) := by
  unfold State.controlLaw
  dsimp only
  split
  · split
    · exact ⟨rfl, rfl, rfl, rfl, rfl⟩
    · split <;> exact ⟨rfl, rfl, rfl, rfl, rfl⟩
  · exact ⟨rfl, rfl, rfl, rfl, rfl⟩

theorem State.fixDuty_sameFiring (s : State) (z : ZoneId) (v : ZoneState) : v.SameFiring (s.fixDuty z v) :=
  ⟨rfl, rfl, rfl, rfl, rfl⟩

theorem State.controlWork_sameFiring (s : State) (z : ZoneId) :
    (s.zones.zones.get z).SameFiring (s.controlWork.zones.zones.get z) := by
  simp only [State.controlWork, State.controlGas, State.controlZones, State.mapZones, State.setGas_zones,
    State.setZones_zones, PerZone.get_ofFn]
  exact (s.controlLaw_sameFiring z _).trans (State.fixDuty_sameFiring _ z _)

/-- The control position's work leaves the firing decision of the half-cycle that begins. -/
theorem State.controlWork_firesNext (s : State) (z : ZoneId) : s.controlWork.firesNext z = s.firesNext z := by
  obtain ⟨a, -, c, d, -⟩ := s.controlWork_sameFiring z
  unfold State.firesNext
  dsimp only
  rw [a, c, d]
  rfl

/-- The control position's work with the half-cycle that begins at it. -/
theorem State.boundary_control {s : State} (h : s.NextReaches (s.n - 10)) :
    s.boundary = { s.counted.controlWork with zones := { s.counted.controlWork.zones with
      zones := PerZone.ofFn fun z =>
        let v := s.counted.controlWork.zones.zones.get z
        { v with gate := s.firesNext z, fired := if s.firesNext z then v.fired + 1 else v.fired } } } := by
  obtain ⟨hp, hc, hlt⟩ := h
  have work : s.countUp.raisePosition = s.controlWork.countUp := s.countUp.raisePosition_cases.2.2.2 hc
  rw [State.boundary_inner hp (hc ▸ hlt), work, if_pos (show s.controlWork.countUp.timer.timer = .phased from hp),
    State.fire_countUp]
  simp only [State.nextHalfCycle, State.zonesFired, s.controlWork_firesNext]
  rfl

end Sys2Proof.Machine
end

section
/-! PROOFS. The statements about boundaries, the end of listening, and the two window starts. -/

namespace Sys2Proof.Machine

/-! ### The end of listening and the first window start -/

/-- The state at the N-th boundary: the first window start is fixed from the listening records (R9). -/
def State.listened (s : State) : State :=
  { s with timer := { s.timer.counted with firstStart := some (fixFirstStart s.n s.timer.listening) } }

/-- The boundary at which listening ends fixes the first window start, and begins the window if it falls at once. -/
theorem State.boundaryWork_listened {s : State} (hl : s.timer.timer = .listening) (hc : s.timer.windowCount + 1 = s.n)
    (hf : s.timer.firstStart = none) :
    s.boundaryWork = if s.n = (fixFirstStart s.n s.timer.listening).count
      then s.listened.firstWindowStartWork (fixFirstStart s.n s.timer.listening).round else s.listened := by
  have ends : s.countUp.endListening = s.listened := if_pos ⟨hc, hf⟩
  simp only [State.boundaryWork, hl, State.listeningBoundary, ends]
  show (if s.timer.windowCount + 1 = _ then _ else _) = _
  rw [hc]

/-- The boundary at the fixed count begins the first window. -/
theorem State.boundaryWork_firstStart {s : State} {round : Nat} (hl : s.timer.timer = .listening)
    (hf : s.timer.firstStart = some ⟨s.timer.windowCount + 1, round⟩) :
    s.boundaryWork = s.counted.firstWindowStartWork round := by
  have idle : s.countUp.endListening = s.counted :=
    State.endListening_idle (s := s.countUp) (.inr (by simp [State.countUp, hf]))
  have due : s.counted.timer.firstStart = some ⟨s.timer.windowCount + 1, round⟩ := hf
  simp only [State.boundaryWork, hl, State.listeningBoundary, idle, due]
  exact if_pos rfl

theorem State.firstWindowStartWork_timer (s : State) (round : Nat) :
    (s.firstWindowStartWork round).timer = s.timer.firstWindowStart round := (State.windowBlocks_windowWork _).timer

/-- A first window start is PHASED, and fires. -/
theorem State.boundary_of_firstWindowStart {s u : State} {round : Nat} (h : s.boundaryWork = u.firstWindowStartWork round) :
    s.boundary = (u.firstWindowStartWork round).fire := by
  unfold State.boundary
  rw [h]
  exact if_pos (by rw [State.firstWindowStartWork_timer]; rfl)

/-- A boundary that leaves the timer LISTENING fires nothing. -/
theorem State.boundary_of_listening {s u : State} (h : s.boundaryWork = u) (hl : u.timer.timer = .listening) :
    s.boundary = u := by
  unfold State.boundary
  rw [h]
  exact if_neg (by simp [hl])

theorem exec_listeningEnd_of_due {s : State} (hl : s.timer.timer = .listening) (hc : s.timer.windowCount + 1 = s.n)
    (hf : s.timer.firstStart = none) : exec .listeningEnd s = .next s.boundary :=
  congrArg _ (if_pos (by simp [State.listeningEndDue, hl, hc, hf]))

/-- The row of the first window start is the boundary at the fixed count. -/
theorem exec_firstWindowStart_of_fixed {s : State} {round : Nat} (hl : s.timer.timer = .listening)
    (hf : s.timer.firstStart = some ⟨s.timer.windowCount + 1, round⟩) :
    exec .firstWindowStart s = .next (s.counted.firstWindowStartWork round).fire := by
  have b := State.boundary_of_firstWindowStart (State.boundaryWork_firstStart hl hf)
  have phased : s.boundary.timer.timer = .phased := by
    rw [b, State.fire_eq, State.firstWindowStartWork_timer]
    rfl
  exact congrArg _ ((if_pos (by simp [State.firstWindowStartDue, hl, phased])).trans b)

/-! ### Boundaries and the rows they are (O20) -/

theorem State.running_of_phased {s : State} (h : s.timer.timer = .phased) : s.timer.timer ≠ .stopped := by simp [h]

theorem State.running_of_listening {s : State} (h : s.timer.timer = .listening) : s.timer.timer ≠ .stopped := by simp [h]

/-- While LISTENING, a boundary at which nothing falls due is counted, however it comes. -/
theorem listening_counts {s : State} (hl : s.timer.timer = .listening) (h : s.PlainAt (s.timer.windowCount + 1)) :
    (s.timer.mains = .lost → exec .substituteBoundary s = .next s.counted)
      ∧ ∀ e, (s.EdgeCountsOne e → exec (.zeroCrossEdge e) s = .next s.counted)
        ∧ (s.timer.mains = .lost → s.threeH ≤ 6 * e →
            exec (.zeroCrossEdge e) s = .next { s with timer := { s.timer.counted with mains := .present } }) := by
  have running := State.running_of_listening hl
  have counts := State.boundary_listening hl h
  have restored : s.restored.boundary = s.restored.counted := State.boundary_listening (s := s.restored) hl h
  refine ⟨fun hm => ?_, fun e => ⟨fun he => ?_, fun hm he => ?_⟩⟩
  · exact congrArg _ ((State.substitute_lost running hm).trans counts)
  · exact congrArg _ ((State.zeroCross_one running he).trans counts)
  · exact congrArg _ ((State.zeroCross_restores running hm he).trans restored)

/-- In a PHASED window, a boundary at which nothing falls due is the half-cycle alone. -/
theorem phased_counts {s : State} (hp : s.timer.timer = .phased) (hc : s.timer.windowCount + 1 < s.endCount)
    (hn : ∀ p ∈ [4 + 10 * s.bank.ownNumber.val, s.n - 20, s.n - 16, s.n - 10], s.timer.windowCount + 1 ≠ p) :
    (s.timer.mains = .lost → exec .substituteBoundary s = .next s.nextHalfCycle)
      ∧ ∀ e, s.timer.mains = .present → s.timer.boundarySeen = true → s.threeH ≤ 6 * e → 6 * e < 3 * s.threeH →
        exec (.zeroCrossEdge e) s = .next s.nextHalfCycle := by
  have running := State.running_of_phased hp
  have plain := State.boundary_plain hp hc hn
  refine ⟨fun hm => ?_, fun e hm _ lo hi => ?_⟩
  · exact congrArg _ ((State.substitute_lost running hm).trans plain)
  · exact congrArg _ ((State.zeroCross_one running ⟨hm, .inr ⟨lo, hi⟩⟩).trans plain)

/-- Settles O20: a boundary is the same state transition however it comes, and the row of what it reaches performs it. -/
theorem boundariesCountFireAndRaiseTheirPosition : Obligations.BoundariesCountFireAndRaiseTheirPosition := by
  refine ⟨fun s hp hc hn => phased_counts hp hc hn, fun s h => congrArg _ (State.substitute_none h), fun s row p hr h => ?_,
    fun s h => ?_, fun s => ⟨fun h => ?_, fun h => ?_, fun h => ?_⟩,
    fun s hl => ⟨fun hc hf => ?_, fun hc hf => ?_, fun r hf => ?_⟩⟩
  · exact nextBoundaryIs_of_rows (State.running_of_phased h.1) (exec_row_of_reaches hr h)
      (exec_row_of_reaches (s := s.restored) hr h)
  · exact nextBoundaryIs_of_rows (State.running_of_phased h.1) (exec_windowStart_of_ends h)
      (exec_windowStart_of_ends (s := s.restored) h)
  · exact (exec_row_of_reaches (by simp) h).trans (congrArg _ (State.boundary_sequence h))
  · exact (exec_row_of_reaches (by simp) h).trans (congrArg _ (State.boundary_share h))
  · exact (exec_row_of_reaches (by simp) h).trans (congrArg _ (State.boundary_control h))
  · exact listening_counts hl (.inr ⟨hl, hc, hf⟩)
  · exact nextBoundaryIs_of_rows (State.running_of_listening hl) (exec_listeningEnd_of_due hl hc hf)
      (exec_listeningEnd_of_due (s := s.restored) hl hc hf)
  · exact nextBoundaryIs_of_rows (State.running_of_listening hl)
      ((exec_firstWindowStart_of_fixed hl hf).trans
        (congrArg _ (State.boundary_of_firstWindowStart (State.boundaryWork_firstStart hl hf)).symm))
      ((exec_firstWindowStart_of_fixed (s := s.restored) hl hf).trans
        (congrArg _ (State.boundary_of_firstWindowStart (State.boundaryWork_firstStart (s := s.restored) hl hf)).symm))

/-! ### The first window start as fixed (O23) -/

theorem lowestListening_none {l : PerEight (Option ListenRecord)} (h : ∀ i, l.get i = none) :
    ∀ is, lowestListening l is = none
  | [] => rfl
  | i :: is => by
    unfold lowestListening
    rw [h i]
    exact lowestListening_none h is

/-- In a rising list the first record found is the lowest-numbered station's. -/
theorem lowestListening_some {l : PerEight (Option ListenRecord)} {i : StationNo} {r : ListenRecord} (hi : l.get i = some r)
    (lower : ∀ j, j < i → l.get j = none) :
    ∀ is : List (Fin 8), is.Pairwise (· < ·) → i ∈ is → lowestListening l is = some (i, r)
  | [], _, hm => absurd hm List.not_mem_nil
  | k :: is, hp, hm => by
    obtain ⟨hk, hrest⟩ := List.pairwise_cons.1 hp
    unfold lowestListening
    by_cases e : i = k
    · subst e
      rw [hi]
    · have later : i ∈ is := (List.mem_cons.1 hm).resolve_left e
      rw [lower k (hk i later)]
      exact lowestListening_some hi lower is hrest later

/-- Without a record the first window start is at once, in round 0 (R9). -/
theorem fixFirstStart_none {n : Nat} {l : PerEight (Option ListenRecord)} (h : ∀ i, l.get i = none) :
    fixFirstStart n l = ⟨n, 0⟩ := by
  simp only [fixFirstStart, lowestListening_none h]

/-- With the lowest-numbered record, E decides between the next window start heard and the one after (R9). -/
theorem fixFirstStart_some {n : Nat} {l : PerEight (Option ListenRecord)} {i : StationNo} {r : ListenRecord}
    (hi : l.get i = some r) (lower : ∀ j, j < i → l.get j = none) :
    fixFirstStart n l = if n ≤ r.count + n - (4 + 10 * i.val)
      then ⟨r.count + n - (4 + 10 * i.val), (r.round + 1) % 256⟩
      else ⟨r.count + n - (4 + 10 * i.val) + n, (r.round + 2) % 256⟩ := by
  have found := lowestListening_some hi lower eightNumbers (by decide) (mem_eightNumbers i)
  simp only [fixFirstStart, found]
  rfl

/-- A first window start fixed at N begins at the boundary that ends listening. -/
theorem exec_listeningEnd_at_once {s : State} {round : Nat} (hl : s.timer.timer = .listening)
    (hc : s.timer.windowCount + 1 = s.n) (hf : s.timer.firstStart = none)
    (fixed : fixFirstStart s.n s.timer.listening = ⟨s.n, round⟩) :
    exec .listeningEnd s = .next (s.listened.firstWindowStartWork round).fire := by
  have work := State.boundaryWork_listened hl hc hf
  rw [fixed, if_pos rfl] at work
  exact (exec_listeningEnd_of_due hl hc hf).trans (congrArg _ (State.boundary_of_firstWindowStart work))

/-- One fixed later leaves the station LISTENING. -/
theorem exec_listeningEnd_later {s : State} (hl : s.timer.timer = .listening) (hc : s.timer.windowCount + 1 = s.n)
    (hf : s.timer.firstStart = none) (later : s.n ≠ (fixFirstStart s.n s.timer.listening).count) :
    exec .listeningEnd s = .next s.listened := by
  have work := State.boundaryWork_listened hl hc hf
  rw [if_neg later] at work
  exact (exec_listeningEnd_of_due hl hc hf).trans (congrArg _ (State.boundary_of_listening work hl))

theorem State.fire_firstWindowStart_timer (s : State) (round : Nat) :
    (s.firstWindowStartWork round).fire.timer = s.timer.firstWindowStart round := s.firstWindowStartWork_timer round

/-- Settles O23: E against N, for the lowest-numbered record. -/
theorem listeningEndFixesTheFirstWindow : Obligations.ListeningEndFixesTheFirstWindow := by
  intro s hl hc hf
  refine ⟨fun none => ?_, fun i r hi lower => ?_⟩
  · refine ⟨_, exec_listeningEnd_at_once hl hc hf (fixFirstStart_none none), ?_⟩
    rw [State.fire_firstWindowStart_timer]
    exact ⟨rfl, rfl, rfl, rfl⟩
  · have fixed := fixFirstStart_some (n := s.n) hi lower
    have positive : 4 + 10 * i.val < s.n := by
      have := i.isLt
      rcases s.n_cases with h | h <;> omega
    intro e
    refine ⟨fun he => ?_, fun he => ?_, fun he => ?_⟩
    · rw [if_neg (Nat.not_le.2 he)] at fixed
      have later : s.n ≠ e + s.n := by omega
      rw [exec_listeningEnd_later hl hc hf (by rw [fixed]; exact later), State.listened, fixed]
    · rw [if_pos he.le] at fixed
      rw [exec_listeningEnd_later hl hc hf (by rw [fixed]; exact he.ne), State.listened, fixed]
    · rw [if_pos he.ge] at fixed
      have now : fixFirstStart s.n s.timer.listening = ⟨s.n, (r.round + 1) % 256⟩ :=
        fixed.trans (congrArg (FirstStart.mk · _) he)
      refine ⟨_, exec_listeningEnd_at_once hl hc hf now, ?_⟩
      rw [State.fire_firstWindowStart_timer]
      exact ⟨rfl, rfl, rfl⟩

/-! ### The window starts (O24, O25) -/

/-- Firing decides a zone's gate and count, and nothing else of it. -/
theorem State.fire_zone (s : State) (z : ZoneId) :
    ∃ gate fired, s.fire.zones.zones.get z = { s.zones.zones.get z with gate := gate, fired := fired } := by
  have h : s.fire.zones.zones.get z = s.fireZone (s.timer.windowCount + 1) z (s.zones.zones.get z) := by
    simp [State.fire, State.mapZones]
  rw [h]
  unfold State.fireZone
  split <;> exact ⟨_, _, rfl⟩

/-- The peer table after a window start, with the rest of the bank link (R22, R29, R32). -/
theorem State.bankWindowStart_peers (s : State) :
    ∃ peers, s.bankWindowStart.bank = { s.bank with
        record := { s.bank.record with status := .none }
        peers := peers
        duplicateHold := s.bank.duplicateHold - 1 }
      ∧ ∀ i, let e := s.bank.peers.get i
          peers.get i = { e with
            heard := false
            age := (if e.presence = .absent then e.age else min 255 (e.age + 1))
            presence := (if e.presence = .fresh ∧ e.age = 2 then .stale else e.presence) } :=
  ⟨_, s.bankWindowStart_bank, fun i => by rw [PerEight.get_ofFn, PeerEntry.aged_eq]⟩

/-- The zones after the window start's hand-over and its first firing decision (R81). -/
theorem State.WindowWork.duties {s t : State} (h : s.WindowWork t) (z : ZoneId) :
    (t.fire.zones.zones.get z).dutyRunning = (s.zones.zones.get z).dutyNext
      ∧ (t.fire.zones.zones.get z).curtailed = (s.zones.zones.get z).curtailedNext := by
  obtain ⟨gate, fired, hz⟩ := t.fire_zone z
  rw [hz, h.zones]
  simp [State.handOverDuties, State.mapZones, ZoneState.handOver]

/-- Settles O24: the first window start is the window work of the state counted, with the timer PHASED. -/
theorem firstWindowStartBeginsThePhasedRun : Obligations.FirstWindowStartBeginsThePhasedRun := by
  intro s round hl hf
  let w := s.counted.setTimer (s.counted.timer.firstWindowStart round)
  have work := w.windowBlocks_windowWork
  have current := w.windowBlocks_current
  have flows := w.windowBlocks_flows
  have peers := w.bankWindowStart_peers
  rw [← work.bank] at peers
  refine ⟨w.windowBlocks.fire, exec_firstWindowStart_of_fixed hl hf, ?_⟩
  generalize w.windowBlocks = t at work current flows peers
  exact ⟨work.timer, work.joiningCount, work.share, work.runsOn.pending, work.exec, work.runsOn.host.eq_reasons, current, peers,
    work.peerChange, work.scanner, flows.1, work.next, flows.2, fun z => work.duties z⟩

/-- What the three positions leave, a window's cut-off positions leave. -/
theorem State.atWindowEnd_keeps {α : Type} (f : State → α) (hq : ∀ u : State, f u.sequenceWork = f u)
    (hs : ∀ u : State, f u.shareWork = f u) (hc : ∀ u : State, f u.controlWork = f u) (s : State) :
    f s.atWindowEnd = f s.counted := by
  unfold State.atWindowEnd
  simp only [apply_ite f, hq, hs, hc, ite_self]

/-- The share position closes the round in the bank link, and leaves peers and duplicate hold. -/
theorem State.shareWork_peers (s : State) :
    s.shareWork.bank.peers = s.bank.peers ∧ s.shareWork.bank.duplicateHold = s.bank.duplicateHold := by
  simp only [State.shareWork, State.shareUnitWork, State.raiseIf_bank, State.setShare_bank]
  unfold State.closeRound
  dsimp only
  split <;> simp

/-- What the cut-off positions leave of supervisor, bank link and queue. -/
structure State.CutOffKeeps (s t : State) : Prop where
  store : t.sup.store = s.sup.store
  haltAsserted : t.sup.haltAsserted = s.sup.haltAsserted
  joiningCount : t.sup.joiningCount = s.sup.joiningCount
  pending : t.pending = s.pending
  peers : t.bank.peers = s.bank.peers
  duplicateHold : t.bank.duplicateHold = s.bank.duplicateHold

theorem State.atWindowEnd_cutOffKeeps (s : State) : s.CutOffKeeps s.atWindowEnd where
  store := State.atWindowEnd_keeps (fun u => u.sup.store) (fun u => u.sequenceWork_same.store) (by simp) (fun _ => rfl) s
  haltAsserted := State.atWindowEnd_keeps (fun u => u.sup.haltAsserted) (fun u => u.sequenceWork_same.haltAsserted) (by simp)
    (fun _ => rfl) s
  joiningCount := State.atWindowEnd_keeps (fun u => u.sup.joiningCount) (fun u => u.sequenceWork_same.joiningCount) (by simp)
    (fun _ => rfl) s
  pending := State.atWindowEnd_keeps State.pending (fun u => u.sequenceWork_same.pending) (fun u => u.shareWork_runsOn.pending)
    (fun _ => rfl) s
  peers := State.atWindowEnd_keeps (fun u => u.bank.peers) (fun u => congrArg BankLink.peers u.sequenceWork_same.bank)
    (fun u => u.shareWork_peers.1) (fun _ => rfl) s
  duplicateHold := State.atWindowEnd_keeps (fun u => u.bank.duplicateHold)
    (fun u => congrArg BankLink.duplicateHold u.sequenceWork_same.bank) (fun u => u.shareWork_peers.2) (fun _ => rfl) s

/-- The state at a window start whose timer has taken the next round and whose joining count has been counted, at most to 2 (R2,
R162). -/
def State.nextRound (s : State) (length : Nat) : State :=
  (s.setTimer (s.timer.windowStart length)).setSup { s.sup with
    joiningCount := if s.sup.station = .joining then min 2 (s.sup.joiningCount + 1) else s.sup.joiningCount }

theorem State.countJoining_eq (s : State) :
    s.countJoining = s.setSup { s.sup with
      joiningCount := if s.sup.station = .joining then min 2 (s.sup.joiningCount + 1) else s.sup.joiningCount } := by
  have sat : (if s.sup.joiningCount < 2 then s.sup.joiningCount + 1 else 2) = min 2 (s.sup.joiningCount + 1) := by
    split <;> omega
  unfold State.countJoining
  split
  · rw [sat]
  · rfl

theorem State.windowStartWork_eq (s : State) (length : Nat) : s.windowStartWork length = (s.nextRound length).windowBlocks := by
  unfold State.windowStartWork
  rw [State.countJoining_eq]
  rfl

/-- A window start leaves the timer PHASED, and the zones fire. -/
theorem State.boundary_ends {s : State} (h : s.EndsWindow) : s.boundary = (s.atWindowEnd.windowStartWork s.endCount).fire := by
  unfold State.boundary
  rw [State.boundaryWork_ends h]
  refine if_pos ?_
  rw [State.windowStartWork_eq, (State.windowBlocks_windowWork _).timer]
  show s.atWindowEnd.timer.timer = .phased
  rw [s.atWindowEnd_timer]
  exact h.1

/-- Settles O25: the window start is the window work of the state after the cut-off positions, with the timer advanced. -/
theorem windowStartBeginsTheNextRound : Obligations.WindowStartBeginsTheNextRound := by
  refine ⟨fun s h => State.atWindowEnd_full h, fun s h => ?_⟩
  intro p
  have cut : s.CutOffKeeps p := s.atWindowEnd_cutOffKeeps
  have counted : p.timer = s.timer.counted := s.atWindowEnd_timer
  have row : exec .windowStart s = .next (p.nextRound s.endCount).windowBlocks.fire := by
    rw [exec_windowStart_of_ends h, State.boundary_ends h, State.windowStartWork_eq]
  clear_value p
  let w := p.nextRound s.endCount
  have timer : w.timer = s.timer.counted.windowStart s.endCount := by rw [← counted]; rfl
  have joining : w.sup.joiningCount = if p.sup.station = .joining then min 2 (s.sup.joiningCount + 1) else s.sup.joiningCount := by
    rw [← cut.joiningCount]
    rfl
  have table : w.bank.peers = s.bank.peers := cut.peers
  have hold : w.bank.duplicateHold = s.bank.duplicateHold := cut.duplicateHold
  have work := w.windowBlocks_windowWork
  have current := w.windowBlocks_current
  have change := work.peerChange
  have peers := w.bankWindowStart_peers
  rw [← work.bank, hold, table] at peers
  rw [table] at change
  refine ⟨w.windowBlocks.fire, row, ?_⟩
  generalize w.windowBlocks = t at work current change peers
  exact ⟨work.timer.trans timer, work.runsOn.store.trans cut.store, work.haltAsserted.trans cut.haltAsserted,
    work.joiningCount.trans joining, work.share, work.runsOn.pending.trans cut.pending, work.exec,
    work.runsOn.host.eq_reasons, current, peers, change⟩

end Sys2Proof.Machine
end

section
/-! PROOFS. What the zones have fired in the running window, and whether they drive the half-cycle under way, decides nothing but
the zones' firing: the work of a boundary that ends a window does the same whatever those two items are. -/

namespace Sys2Proof.Machine

/-- A zone with another count of fired half-cycles and another firing output. -/
def ZoneState.withFiring (v : ZoneState) (fired : Nat) (gate : Bool) : ZoneState := { v with fired := fired, gate := gate }

/-- The zones with other counts of fired half-cycles and other firing outputs. -/
def State.withFiring (s : State) (fired : ZoneId → Nat) (gate : ZoneId → Bool) : State :=
  s.setZones { s.zones with
    zones := PerZone.ofFn fun z => (s.zones.zones.get z).withFiring (fired z) (gate z) }

section
variable (s : State) (f : ZoneId → Nat) (g : ZoneId → Bool)

@[simp] theorem State.withFiring_timer : (s.withFiring f g).timer = s.timer := rfl
@[simp] theorem State.withFiring_bank : (s.withFiring f g).bank = s.bank := rfl
@[simp] theorem State.withFiring_share : (s.withFiring f g).share = s.share := rfl
@[simp] theorem State.withFiring_scanner : (s.withFiring f g).scanner = s.scanner := rfl
@[simp] theorem State.withFiring_ramp : (s.withFiring f g).ramp = s.ramp := rfl
@[simp] theorem State.withFiring_gas : (s.withFiring f g).gas = s.gas := rfl
@[simp] theorem State.withFiring_loader : (s.withFiring f g).loader = s.loader := rfl
@[simp] theorem State.withFiring_exec : (s.withFiring f g).exec = s.exec := rfl
@[simp] theorem State.withFiring_sup : (s.withFiring f g).sup = s.sup := rfl
@[simp] theorem State.withFiring_store : (s.withFiring f g).store = s.store := rfl
@[simp] theorem State.withFiring_freeIndex : (s.withFiring f g).freeIndex = s.freeIndex := rfl

@[simp] theorem State.withFiring_zone (z : ZoneId) :
    (s.withFiring f g).zones.zones.get z = (s.zones.zones.get z).withFiring (f z) (g z) := by
  simp [State.withFiring]

/-- Two states with the same zones stay different under another firing. -/
theorem State.withFiring_inj {s t : State} (h : s.zones = t.zones) : s.withFiring f g = t.withFiring f g ↔ s = t := by
  refine ⟨fun e => ?_, fun e => e ▸ rfl⟩
  have back : ∀ u : State, (u.withFiring f g).setZones u.zones = u := fun _ => rfl
  rw [← back s, ← back t, e, h]

/-- A firing decision is another firing. -/
theorem State.fire_eq_withFiring : ∃ f g, s.fire = s.withFiring f g := by
  refine ⟨fun z => (s.fire.zones.zones.get z).fired, fun z => (s.fire.zones.zones.get z).gate, ?_⟩
  have zones : s.fire.zones.zones
      = (s.withFiring (fun z => (s.fire.zones.zones.get z).fired) fun z => (s.fire.zones.zones.get z).gate).zones.zones := by
    refine PerZone.ext_get fun z => ?_
    obtain ⟨gate, fired, h⟩ := s.fire_zone z
    rw [State.withFiring_zone, h]
    rfl
  rw [s.fire_eq]
  show s.setZones { s.zones with zones := s.fire.zones.zones } = _
  rw [zones]
  rfl

/-! ### Replacements and reasons -/

@[simp] theorem State.withFiring_setBank (v : BankLink) : (s.withFiring f g).setBank v = (s.setBank v).withFiring f g := rfl
@[simp] theorem State.withFiring_setShare (v : ShareUnit) : (s.withFiring f g).setShare v = (s.setShare v).withFiring f g := rfl
@[simp] theorem State.withFiring_setScanner (v : Scanner) :
    (s.withFiring f g).setScanner v = (s.setScanner v).withFiring f g := rfl
@[simp] theorem State.withFiring_setRamp (v : Ramp) : (s.withFiring f g).setRamp v = (s.setRamp v).withFiring f g := rfl
@[simp] theorem State.withFiring_setGas (v : Gas) : (s.withFiring f g).setGas v = (s.setGas v).withFiring f g := rfl
@[simp] theorem State.withFiring_setLoader (v : Loader) : (s.withFiring f g).setLoader v = (s.setLoader v).withFiring f g := rfl
@[simp] theorem State.withFiring_setExec (v : Executor) : (s.withFiring f g).setExec v = (s.setExec v).withFiring f g := rfl
@[simp] theorem State.withFiring_setFreeIndex (v : Nat) :
    (s.withFiring f g).setFreeIndex v = (s.setFreeIndex v).withFiring f g := rfl
@[simp] theorem State.withFiring_setStation (st : StationState) :
    (s.withFiring f g).setStation st = (s.setStation st).withFiring f g := rfl

theorem State.withFiring_ite (c : Prop) [Decidable c] (a b : State) :
    (if c then a else b).withFiring f g = if c then a.withFiring f g else b.withFiring f g :=
  apply_ite (State.withFiring · f g) c a b

@[simp] theorem State.withFiring_raiseIf (c : Bool) (r : BitVec 16) :
    (s.withFiring f g).raiseIf c r = (s.raiseIf c r).withFiring f g := by
  cases c <;> rfl

@[simp] theorem State.withFiring_report : (s.withFiring f g).report = s.report.withFiring f g := by
  unfold State.report
  rw [State.withFiring_ite]
  rfl

/-! ### The sequence position -/

@[simp] theorem State.withFiring_anyTrip : (s.withFiring f g).anyTrip = s.anyTrip := by
  simp [State.anyTrip, ZoneState.withFiring]

@[simp] theorem State.withFiring_applyShadow : (s.withFiring f g).applyShadow = s.applyShadow.withFiring f g := by
  unfold State.applyShadow
  simp only [State.withFiring_exec]
  split <;> rfl

@[simp] theorem State.withFiring_takeSkip : (s.withFiring f g).takeSkip = s.takeSkip.withFiring f g := by
  unfold State.takeSkip
  rw [State.withFiring_exec]
  cases s.exec.current with
  | none => rfl
  | some c =>
    simp only [State.withFiring_ite]
    rfl

@[simp] theorem State.withFiring_takeHold : (s.withFiring f g).takeHold = s.takeHold.withFiring f g := by
  unfold State.takeHold
  rw [State.withFiring_ite]
  rfl

@[simp] theorem State.withFiring_resume : (s.withFiring f g).resume = s.resume.withFiring f g := by
  unfold State.resume
  show _ = State.removeCause (State.withFiring (ite _ _ _) f g) .hold
  rw [State.withFiring_ite]
  rfl

@[simp] theorem State.withFiring_takeResume : (s.withFiring f g).takeResume = s.takeResume.withFiring f g := by
  unfold State.takeResume
  rw [State.withFiring_resume, State.withFiring_anyTrip, State.withFiring_ite]
  rfl

@[simp] theorem State.withFiring_takeUrgent : (s.withFiring f g).takeUrgent = s.takeUrgent.withFiring f g := by
  unfold State.takeUrgent
  rw [State.withFiring_exec]
  cases s.exec.urgent with
  | none => rfl
  | some k =>
    cases k with
    | skip => exact s.withFiring_takeSkip f g
    | hold => exact s.withFiring_takeHold f g
    | resume => exact s.withFiring_takeResume f g
    | flush => rfl

@[simp] theorem State.withFiring_takeThermal (h : Option ThermalSpec) :
    (s.withFiring f g).takeThermal h = (s.takeThermal h).withFiring f g := by
  cases h <;> rfl

@[simp] theorem State.withFiring_takeGas (p : Option GasSpec) :
    (s.withFiring f g).takeGas p = (s.takeGas p).withFiring f g := by
  cases p <;> rfl

@[simp] theorem State.withFiring_startHead (p : Segment) (rest : List Segment) :
    (s.withFiring f g).startHead p rest = (s.startHead p rest).withFiring f g := by
  have thermal : ∀ u : State, (u.withFiring f g).takeThermal p.thermal = (u.takeThermal p.thermal).withFiring f g :=
    fun u => u.withFiring_takeThermal f g p.thermal
  unfold State.startHead
  simp only [State.withFiring_exec, State.withFiring_setExec, thermal, State.withFiring_takeGas, State.withFiring_gas,
    State.withFiring_loader, State.withFiring_setLoader, State.withFiring_raiseIf]

@[simp] theorem State.withFiring_afterEnd : (s.withFiring f g).afterEnd = s.afterEnd.withFiring f g := by
  unfold State.afterEnd
  rw [State.withFiring_ite, State.withFiring_exec]
  cases s.exec.queue with
  | nil => rfl
  | cons p rest =>
    simp only [State.withFiring_startHead]
    rfl

theorem State.withFiring_endSegment (c : CurrentSegment) (r : SegmentResult) :
    (s.withFiring f g).endSegment c r = (s.endSegment c r).withFiring f g := rfl

@[simp] theorem State.withFiring_judgeSegment : (s.withFiring f g).judgeSegment = s.judgeSegment.withFiring f g := by
  unfold State.judgeSegment
  rw [State.withFiring_exec]
  cases s.exec.current with
  | none =>
    cases s.exec.queue with
    | nil =>
      simp only [State.withFiring_ite]
      rfl
    | cons p rest =>
      simp only [State.withFiring_ite, State.withFiring_setStation, State.withFiring_startHead]
      rfl
  | some c =>
    simp only [State.withFiring_ite, State.withFiring_endSegment, State.withFiring_afterEnd]
    rfl

@[simp] theorem State.withFiring_executorSequence :
    (s.withFiring f g).executorSequence = s.executorSequence.withFiring f g := by
  simp [State.executorSequence]

@[simp] theorem State.withFiring_endJoining : (s.withFiring f g).endJoining = s.endJoining.withFiring f g := by
  unfold State.endJoining
  simp only [State.withFiring_anyTrip, State.withFiring_ite]
  rfl

@[simp] theorem State.withFiring_sequenceWork : (s.withFiring f g).sequenceWork = s.sequenceWork.withFiring f g := by
  have zones : s.endJoining.executorSequence.zones = s.executorSequence.endJoining.zones := by
    rw [(State.executorSequence_same _).zones, s.endJoining_same.zones, (State.endJoining_same _).zones,
      s.executorSequence_same.zones]
  unfold State.sequenceWork
  simp only [State.withFiring_endJoining, State.withFiring_executorSequence, State.withFiring_ite]
  by_cases h : s.endJoining.executorSequence = s.executorSequence.endJoining
  · rw [if_pos h, if_pos ((State.withFiring_inj f g zones).2 h)]
    rfl
  · rw [if_neg h, if_neg (mt (State.withFiring_inj f g zones).1 h)]
    rw [State.withFiring_freeIndex, ← State.withFiring_ite f g (Config.joinFirst s.freeIndex = true)]
    rfl

/-! ### The share and control positions -/

@[simp] theorem State.withFiring_shareWork : (s.withFiring f g).shareWork = s.shareWork.withFiring f g := by
  have close : (s.withFiring f g).closeRound = s.closeRound.withFiring f g := by
    unfold State.closeRound
    simp only [State.withFiring_bank, State.withFiring_setBank, State.withFiring_raiseIf, State.withFiring_ite]
    rfl
  have unit : ∀ u : State, (u.withFiring f g).shareUnitWork = u.shareUnitWork.withFiring f g := by
    intro u
    unfold State.shareUnitWork
    dsimp only
    rw [State.withFiring_setShare, State.withFiring_raiseIf]
    rfl
  rw [State.shareWork, close, unit, State.shareWork]

/-- A map over the zones that neither reads nor writes the firing. -/
theorem State.withFiring_mapZones {p q : ZoneId → ZoneState → ZoneState}
    (h : ∀ z v a b, q z (ZoneState.withFiring v a b) = (p z v).withFiring a b) :
    (s.withFiring f g).mapZones q = (s.mapZones p).withFiring f g := by
  simp only [State.mapZones, State.withFiring_zone, h]
  simp [State.withFiring]

theorem State.withFiring_controlLaw (z : ZoneId) (v : ZoneState) (a : Nat) (b : Bool) :
    (s.withFiring f g).controlLaw z (v.withFiring a b) = (s.controlLaw z v).withFiring a b := by
  have readable : (s.withFiring f g).zoneReadable z = s.zoneReadable z := by
    simp [State.zoneReadable, ZoneState.withFiring]
  have forward : (s.withFiring f g).feedForward z = s.feedForward z := rfl
  unfold State.controlLaw
  simp only [State.withFiring_store, State.withFiring_ramp, State.withFiring_scanner, State.withFiring_sup,
    State.withFiring_timer, readable, forward]
  split
  · split
    · rfl
    · split <;> rfl
  · rfl

theorem State.withFiring_classDemand (k : ZoneClass) : (s.withFiring f g).classDemand k = s.classDemand k := by
  simp [State.classDemand, ZoneState.withFiring]

theorem State.withFiring_fixDuty (z : ZoneId) (v : ZoneState) (a : Nat) (b : Bool) :
    (s.withFiring f g).fixDuty z (v.withFiring a b) = (s.fixDuty z v).withFiring a b := by
  have claims : (s.withFiring f g).zoneClaims = s.zoneClaims := by
    funext z
    simp [State.zoneClaims, ZoneState.withFiring]
  have claimant : ∀ z, ((s.withFiring f g).zones.zones.get z).claimant = (s.zones.zones.get z).claimant := by
    intro z
    rw [State.withFiring_zone]
    rfl
  have grant : (s.withFiring f g).zoneGrant z = s.zoneGrant z := by
    simp only [State.zoneGrant, State.zoneClaimants, claims, claimant, State.withFiring_share]
  unfold State.fixDuty
  rw [grant]
  rfl

@[simp] theorem State.withFiring_controlWork : (s.withFiring f g).controlWork = s.controlWork.withFiring f g := by
  have law := s.withFiring_mapZones f g (s.withFiring_controlLaw f g)
  have powers : ∀ u : State, (u.withFiring f g).setZones { (u.withFiring f g).zones with
      powerFirm := (u.withFiring f g).classDemand .firm, powerExtra := (u.withFiring f g).classDemand .rising }
      = (u.setZones { u.zones with
          powerFirm := u.classDemand .firm, powerExtra := u.classDemand .rising }).withFiring f g := by
    intro u
    simp only [State.withFiring_classDemand]
    rfl
  have duties : ∀ u : State, (u.withFiring f g).mapZones (u.withFiring f g).fixDuty = (u.mapZones u.fixDuty).withFiring f g :=
    fun u => u.withFiring_mapZones f g (u.withFiring_fixDuty f g)
  have zones : (s.withFiring f g).controlZones = s.controlZones.withFiring f g := by
    unfold State.controlZones
    dsimp only
    rw [law, powers, duties]
  rw [State.controlWork, zones]
  rfl

@[simp] theorem State.withFiring_counted : (s.withFiring f g).counted = s.counted.withFiring f g := rfl

/-- The positions that a window cuts off. -/
theorem State.withFiring_atWindowEnd : (s.withFiring f g).atWindowEnd = s.atWindowEnd.withFiring f g := by
  have n : (s.withFiring f g).n = s.n := rfl
  have stop : (s.withFiring f g).endCount = s.endCount := rfl
  unfold State.atWindowEnd
  simp only [n, stop, State.withFiring_counted]
  split <;> split <;> split <;> simp

/-! ### The window start -/

/-- A count of fired half-cycles before the window is lost at its hand-over. -/
theorem State.withFiring_handOverDuties :
    (s.withFiring f g).handOverDuties = s.handOverDuties.withFiring (fun _ => 0) g := by
  simp [State.handOverDuties, State.mapZones, State.withFiring, ZoneState.withFiring, ZoneState.handOver]

@[simp] theorem State.withFiring_rampStep : (s.withFiring f g).rampStep = s.rampStep.withFiring f g := by
  have readable : ∀ z, (s.withFiring f g).zoneReadable z = s.zoneReadable z := by
    intro z
    simp [State.zoneReadable, ZoneState.withFiring]
  have deviation : (s.withFiring f g).deviation = s.deviation := rfl
  have causes : ∀ st, (s.withFiring f g).holdCauses st = s.holdCauses st := by
    intro st
    simp only [State.holdCauses, readable, deviation, State.withFiring_zone, State.withFiring_ramp, State.withFiring_timer]
    rfl
  have part : ∀ st, (s.withFiring f g).partStep st = s.partStep st := by
    intro st
    simp only [State.partStep, causes]
    rfl
  unfold State.rampStep
  simp only [State.withFiring_ramp, State.withFiring_sup, part, State.withFiring_setRamp, State.withFiring_ite,
    State.setRamp_exec, State.withFiring_exec]
  cases s.exec.current with
  | none => rfl
  | some c =>
    simp only [State.withFiring_ite]
    rfl

@[simp] theorem State.withFiring_judgeCurtain : (s.withFiring f g).judgeCurtain = s.judgeCurtain.withFiring f g := by
  have lose : (s.withFiring f g).loseCurtain = s.loseCurtain.withFiring f g := by
    simp [State.loseCurtain]
  have establish : (s.withFiring f g).establishCurtain = s.establishCurtain.withFiring f g := rfl
  have good : decide ((s.withFiring f g).store.gas.curtainMin ≤ (s.withFiring f g).scanner.lastFc)
      = decide (s.store.gas.curtainMin ≤ s.scanner.lastFc) := rfl
  unfold State.judgeCurtain
  simp only [good, State.withFiring_gas, lose, establish]
  generalize decide (s.store.gas.curtainMin ≤ s.scanner.lastFc) = b
  cases he : s.gas.established <;> cases b
  case false.true =>
    simp only [State.withFiring_ite]
    rfl
  case true.false =>
    simp only [State.withFiring_ite]
    rfl
  all_goals rfl

@[simp] theorem State.withFiring_countWindow : (s.withFiring f g).countWindow = s.countWindow.withFiring f g := by
  unfold State.countWindow
  rw [State.withFiring_exec]
  cases s.exec.current with
  | none => rfl
  | some c =>
    simp only [State.withFiring_ite]
    rfl

@[simp] theorem State.withFiring_dwellWork : (s.withFiring f g).dwellWork = s.dwellWork.withFiring f g := by
  have stalled : ∀ u : State, (u.withFiring f g).loaderStalled = u.loaderStalled.withFiring f g := fun u =>
    (u.raise reasonLoaderFault).withFiring_report f g
  have lags : (s.withFiring f g).lagsAbove = s.lagsAbove := rfl
  unfold State.dwellWork
  simp only [State.withFiring_loader, State.withFiring_gas, lags, State.withFiring_setLoader, stalled, State.withFiring_ite]

@[simp] theorem State.withFiring_orderedWork (o : WindowOrder) :
    (s.withFiring f g).orderedWork o = (s.orderedWork o).withFiring f g := by
  obtain ⟨rampFirst, curtainFirst, countFirst⟩ := o
  cases rampFirst <;> cases curtainFirst <;> cases countFirst <;> simp [State.orderedWork, State.doIf]

@[simp] theorem State.withFiring_openOrderWork : (s.withFiring f g).openOrderWork = s.openOrderWork.withFiring f g := by
  have zones : ∀ o, (s.orderedWork o).zones = (s.orderedWork ⟨true, true, true⟩).zones := fun o =>
    (s.orderedWork_sameButTube o).zones.trans (s.orderedWork_sameButTube ⟨true, true, true⟩).zones.symm
  have same : ∀ o, ((s.orderedWork o).withFiring f g = (s.orderedWork ⟨true, true, true⟩).withFiring f g)
      = (s.orderedWork o = s.orderedWork ⟨true, true, true⟩) := fun o => propext (State.withFiring_inj f g (zones o))
  unfold State.openOrderWork
  simp only [State.withFiring_loader, State.withFiring_freeIndex, State.withFiring_orderedWork, same,
    ← State.withFiring_ite, State.withFiring_setFreeIndex]

theorem State.withFiring_windowBlocks : (s.withFiring f g).windowBlocks = s.windowBlocks.withFiring (fun _ => 0) g := by
  have bank : (s.withFiring f g).bankWindowStart = s.bankWindowStart.withFiring f g := by
    unfold State.bankWindowStart
    dsimp only
    rw [State.withFiring_setBank, State.withFiring_raiseIf]
    rfl
  have volume : ∀ (u : State) (f : ZoneId → Nat), (u.withFiring f g).countVolume = u.countVolume.withFiring f g :=
    fun _ _ => rfl
  have flow : ∀ (u : State) (f : ZoneId → Nat), (u.withFiring f g).judgeFlow = u.judgeFlow.withFiring f g := by
    intro u f
    unfold State.judgeFlow
    simp only [State.withFiring_gas, State.withFiring_scanner, State.withFiring_setGas, State.withFiring_raiseIf,
      State.withFiring_ite]
    rfl
  have flows : ∀ (u : State) (f : ZoneId → Nat), (u.withFiring f g).handOverFlows = u.handOverFlows.withFiring f g :=
    fun _ _ => rfl
  unfold State.windowBlocks
  simp only [bank, State.withFiring_handOverDuties, State.withFiring_scanner, State.withFiring_setScanner, volume, flow,
    State.withFiring_openOrderWork, flows]

theorem State.withFiring_windowStartWork (length : Nat) :
    (s.withFiring f g).windowStartWork length = (s.windowStartWork length).withFiring (fun _ => 0) g := by
  rw [State.windowStartWork_eq, State.windowStartWork_eq]
  exact (s.nextRound length).withFiring_windowBlocks f g

/-- A boundary that ends a window does the same whatever the zones fired in it. -/
theorem State.withFiring_boundaryWork (h : s.EndsWindow) :
    (s.withFiring f g).boundaryWork = s.boundaryWork.withFiring (fun _ => 0) g := by
  have ends : (s.withFiring f g).EndsWindow := h
  rw [State.boundaryWork_ends ends, State.boundaryWork_ends h, State.withFiring_atWindowEnd, State.withFiring_windowStartWork]
  rfl

end

end Sys2Proof.Machine
end

section
/-! PROOFS. The three boundaries of the entry into MAINS_LOST: which of them only count, and what is left where one of them does
more. -/

namespace Sys2Proof.Machine

/-! ### Boundaries that only count -/

/-- A state at another count. -/
def State.atCount (s : State) (count : Nat) : State := { s with timer := { s.timer with windowCount := count } }

/-- A state at another count, which a boundary has reached. -/
def State.countTo (s : State) (count : Nat) : State :=
  { s with timer := { s.timer with windowCount := count, boundarySeen := true } }

/-- Firing stopped at a count, after given numbers of fired half-cycles (R83). -/
def State.quenched (s : State) (count : Nat) (fired : ZoneId → Nat) : State :=
  { s with
    timer := { s.timer with windowCount := count, boundarySeen := true }
    zones := { s.zones with zones := PerZone.ofFn fun z =>
      { s.zones.zones.get z with fired := fired z, firingStopped := true, gate := false } } }

theorem State.stopFiring_countTo (s : State) (count : Nat) :
    (s.countTo count).stopFiring = s.quenched count fun z => (s.zones.zones.get z).fired := rfl

/-- What the zones drove before is lost when firing stops. -/
theorem State.quenched_fire (s : State) (count : Nat) (fired : ZoneId → Nat) :
    s.fire.quenched count fired = s.quenched count fired := by
  obtain ⟨f, g, h⟩ := s.fire_eq_withFiring
  rw [h]
  simp [State.quenched, State.withFiring, ZoneState.withFiring]

theorem State.countTo_self {s : State} {count : Nat} (hc : s.timer.windowCount = count) (hs : s.timer.boundarySeen = true) :
    s.countTo count = s := by
  subst hc
  have timer : { s.timer with boundarySeen := true } = s.timer := by rw [← hs]
  show { s with timer := { s.timer with boundarySeen := true } } = s
  rw [timer]

/-- Whether a boundary came before is nothing to a boundary's work. -/
theorem State.atCount_boundaryWork {s : State} (count : Nat) (h : s.timer.timer ≠ .stopped) :
    (s.atCount count).boundaryWork = (s.countTo count).boundaryWork := by
  have h1 : (s.atCount count).timer.timer = s.timer.timer := rfl
  have h2 : (s.countTo count).timer.timer = s.timer.timer := rfl
  unfold State.boundaryWork
  rw [h1, h2]
  cases ht : s.timer.timer with
  | stopped => exact absurd ht h
  | listening => rfl
  | phased => rfl

/-- Boundaries at which nothing falls due are counted one after another. -/
theorem State.iterate_plain {s : State} {w : Nat} :
    ∀ m, (∀ c, w < c → c ≤ w + m → s.PlainAt c) → State.boundaryWork^[m] (s.countTo w) = s.countTo (w + m)
  | 0, _ => rfl
  | m + 1, h => by
    rw [Function.iterate_succ_apply', State.iterate_plain m fun c hw hc => h c hw (by omega)]
    have next : (s.countTo (w + m)).PlainAt (w + m + 1) := h (w + m + 1) (by omega) (by omega)
    rw [State.boundaryWork_plain (s := s.countTo (w + m)) next]
    rfl

/-- Among boundaries of which the first ones only count, the next does its work at its count. -/
theorem State.iterate_event {s : State} {w k m : Nat} (hk : w ≤ k) (hm : k + 1 ≤ w + m)
    (plain : ∀ c, w < c → c ≤ k → s.PlainAt c) :
    State.boundaryWork^[m] (s.countTo w) = State.boundaryWork^[w + m - (k + 1)] (s.countTo k).boundaryWork := by
  obtain ⟨i, rfl⟩ := Nat.exists_eq_add_of_le hk
  obtain ⟨j, rfl⟩ : ∃ j, m = j + 1 + i := ⟨m - (i + 1), by omega⟩
  have rest : w + (j + 1 + i) - (w + i + 1) = j := by omega
  rw [rest, Function.iterate_add_apply, State.iterate_plain i plain, Function.iterate_succ_apply]

/-! ### A window that begins -/

/-- A window has just begun: the count is 0, no candidate is held, and no zone has fired. -/
structure State.FreshWindow (s : State) : Prop where
  phased : s.timer.timer = .phased
  count : s.timer.windowCount = 0
  seen : s.timer.boundarySeen = true
  candidate : s.timer.candidate = none
  fired : ∀ z, (s.zones.zones.get z).fired = 0

/-- The hand-over of the window work makes the zones' counts 0 (R81). -/
theorem State.WindowWork.freshWindow {s t : State} (h : s.WindowWork t) (phased : s.timer.timer = .phased)
    (count : s.timer.windowCount = 0) (seen : s.timer.boundarySeen = true) (candidate : s.timer.candidate = none) :
    t.FreshWindow where
  phased := by rw [h.timer, phased]
  count := by rw [h.timer, count]
  seen := by rw [h.timer, seen]
  candidate := by rw [h.timer, candidate]
  fired := fun z => by
    rw [h.zones]
    simp [State.handOverDuties, State.mapZones, ZoneState.handOver]

theorem State.windowStartWork_fresh {s : State} (length : Nat) (phased : s.timer.timer = .phased)
    (seen : s.timer.boundarySeen = true) : (s.windowStartWork length).FreshWindow := by
  rw [State.windowStartWork_eq]
  exact (State.windowBlocks_windowWork _).freshWindow phased rfl seen rfl

theorem State.firstWindowStartWork_fresh {s : State} (round : Nat) (seen : s.timer.boundarySeen = true) :
    (s.firstWindowStartWork round).FreshWindow :=
  (State.windowBlocks_windowWork _).freshWindow rfl rfl seen rfl

/-- A boundary that ends a window begins one. -/
theorem State.boundaryWork_ends_fresh {s : State} (h : s.EndsWindow) : s.boundaryWork.FreshWindow := by
  rw [State.boundaryWork_ends h]
  exact State.windowStartWork_fresh _ (by rw [s.atWindowEnd_timer]; exact h.1) (by rw [s.atWindowEnd_timer]; rfl)

/-- The first boundaries of a window reach no position. -/
theorem State.FreshWindow.plainAt {s : State} (h : s.FreshWindow) {c : Nat} (hc : c ≤ 2) : s.PlainAt c := by
  have stop : s.endCount = s.n := by
    unfold State.endCount
    rw [h.candidate]
  refine .inl ⟨h.phased, ?_, ?_⟩
  · rw [stop]
    rcases s.n_cases with hn | hn <;> omega
  · simp only [List.mem_cons, List.not_mem_nil, or_false, forall_eq_or_imp, forall_eq]
    rcases s.n_cases with hn | hn <;> omega

/-- Of at most three boundaries, one begins a window: the rest are counted in it. -/
theorem State.window_among {s u : State} {w k m : Nat} (hk : w ≤ k) (hm : k + 1 ≤ w + m) (h3 : m ≤ 3)
    (plain : ∀ c, w < c → c ≤ k → s.PlainAt c) (hu : (s.countTo k).boundaryWork = u) (fresh : u.FreshWindow) :
    (State.boundaryWork^[m] (s.countTo w)).stopFiring = u.quenched (w + m - (k + 1)) fun _ => 0 := by
  have counted := State.iterate_plain (s := u) (w := 0) (w + m - (k + 1)) fun c _ hc => fresh.plainAt (by omega)
  rw [State.countTo_self fresh.count fresh.seen, Nat.zero_add] at counted
  rw [State.iterate_event hk hm plain, hu, counted, State.stopFiring_countTo]
  exact congrArg _ (funext fresh.fired)

/-! ### A position that is reached -/

/-- What a position's work leaves of the round timer, the own number, the configuration and the zones' firing. -/
structure State.PositionKeeps (s t : State) : Prop where
  timer : ∃ heard candidate, t.timer = { s.timer with ownHeard := heard, candidate := candidate }
  ownNumber : t.bank.ownNumber = s.bank.ownNumber
  store : t.sup.store = s.sup.store
  fired : ∀ z, (t.zones.zones.get z).fired = (s.zones.zones.get z).fired

theorem State.slotWork_positionKeeps (s : State) : s.PositionKeeps s.slotWork := by
  unfold State.slotWork
  dsimp only
  split
  · exact ⟨⟨true, _, rfl⟩, rfl, rfl, fun _ => rfl⟩
  · exact ⟨⟨_, _, rfl⟩, rfl, rfl, fun _ => rfl⟩

theorem State.sequenceWork_positionKeeps (s : State) : s.PositionKeeps s.sequenceWork :=
  have same := s.sequenceWork_same
  ⟨⟨_, _, same.timer⟩, congrArg BankLink.ownNumber same.bank, same.store, fun z => by rw [same.zones]⟩

theorem State.shareWork_positionKeeps (s : State) : s.PositionKeeps s.shareWork := by
  have own : s.shareWork.bank.ownNumber = s.bank.ownNumber := by
    simp only [State.shareWork, State.shareUnitWork, State.raiseIf_bank, State.setShare_bank]
    unfold State.closeRound
    dsimp only
    split <;> simp
  exact ⟨⟨_, _, s.shareWork_timer⟩, own, by rw [s.shareWork_sup], fun z => by rw [s.shareWork_zones]⟩

theorem State.controlWork_positionKeeps (s : State) : s.PositionKeeps s.controlWork :=
  ⟨⟨_, _, rfl⟩, rfl, rfl, fun z => (s.controlWork_sameFiring z).fired⟩

theorem State.raisePosition_keeps (s : State) : s.PositionKeeps s.raisePosition := by
  unfold State.raisePosition
  simp only
  split
  · exact s.slotWork_positionKeeps
  split
  · exact s.sequenceWork_positionKeeps
  split
  · exact s.shareWork_positionKeeps
  split
  · exact s.controlWork_positionKeeps
  · exact ⟨⟨_, _, rfl⟩, rfl, rfl, fun _ => rfl⟩

/-- The named positions of a window but its start (R2). -/
abbrev State.positions (s : State) : List Nat := [4 + 10 * s.bank.ownNumber.val, s.n - 20, s.n - 16, s.n - 10]

/-- The positions with their rows. -/
abbrev State.positionRows (s : State) : List (Instr × Nat) :=
  [(Instr.ownSlot, 4 + 10 * s.bank.ownNumber.val), (.sequencePosition, s.n - 20), (.sharePosition, s.n - 16),
    (.controlPosition, s.n - 10)]

/-- Two positions lie at least four half-cycles apart. -/
theorem State.positions_apart {s : State} {p q : Nat} (hp : p ∈ s.positions) (hq : q ∈ s.positions) (h : p < q) :
    p + 4 ≤ q := by
  have own := s.bank.ownNumber.isLt
  simp only [List.mem_cons, List.not_mem_nil, or_false] at hp hq
  rcases s.n_cases with hn | hn <;> rw [hn] at hp hq <;> omega

/-- A boundary inside the window raises what it reaches. -/
theorem State.boundaryWork_raises {s : State} {k : Nat} (hp : s.timer.timer = .phased) (h : k + 1 < s.endCount) :
    (s.countTo k).boundaryWork = (s.countTo (k + 1)).raisePosition := by
  have phased : (s.countTo k).timer.timer = .phased := hp
  have inside : ¬ (s.countTo k).endCount ≤ (s.countTo k).countUp.timer.windowCount := Nat.not_le.2 h
  simp only [State.boundaryWork, phased, State.phasedBoundary, inside, if_false]
  rfl

/-- A boundary that leaves the timer PHASED fires. -/
theorem State.boundary_of_phased {s u : State} (h : s.boundaryWork = u) (hp : u.timer.timer = .phased) :
    s.boundary = u.fire := by
  unfold State.boundary
  rw [h]
  exact if_pos hp

/-- Firing decides nothing that the end of a window depends on. -/
theorem State.fire_endCount (s : State) : s.fire.endCount = s.endCount := rfl

/-- The row of a window start, after a half-cycle has been fired in the window that ends: the firing is lost with the window. -/
theorem exec_windowStart_after_fire {s : State} {k : Nat} (hp : s.timer.timer = .phased) (hk : k + 1 = s.endCount) :
    ∃ v, exec .windowStart (s.fire.atCount k) = .next v
      ∧ ∀ count fired, v.quenched count fired = (s.countTo k).boundaryWork.quenched count fired := by
  obtain ⟨f, g, hfg⟩ := s.fire_eq_withFiring
  have ends : (s.countTo k).EndsWindow := ⟨hp, hk⟩
  have work : (s.fire.atCount k).boundaryWork = (s.countTo k).boundaryWork.withFiring (fun _ => 0) g := by
    rw [State.atCount_boundaryWork k (by show s.timer.timer ≠ .stopped; simp [hp]), hfg]
    exact (s.countTo k).withFiring_boundaryWork f g ends
  have phased : ((s.countTo k).boundaryWork.withFiring (fun _ => 0) g).timer.timer = .phased :=
    (State.boundaryWork_ends_fresh ends).phased
  refine ⟨_, (exec_windowStart_of_ends (s := s.fire.atCount k) ⟨hp, hk⟩).trans
    (congrArg _ (State.boundary_of_phased work phased)), fun count fired => ?_⟩
  rw [State.quenched_fire]
  simp [State.quenched, State.withFiring, ZoneState.withFiring]

/-! ### The entry into MAINS_LOST -/

/-- The mains state and the reason of the entry, before any boundary of it (R5). -/
def State.mainsLost (s : State) : State :=
  { s with
    timer := { s.timer with mains := .lost }
    host := { s.host with reasons := s.host.reasons ||| 0x0004 } }

/-- The entry counts three boundaries and stops the firing (R5, R83). -/
theorem State.loseMains_eq {s : State} (h : s.timer.timer ≠ .stopped) (hm : s.timer.mains = .present) :
    s.loseMains = (State.boundaryWork^[3] (s.mainsLost.countTo s.timer.windowCount)).stopFiring := by
  have first : s.mainsLost.boundaryWork = (s.mainsLost.countTo s.timer.windowCount).boundaryWork :=
    State.atCount_boundaryWork (s := s.mainsLost) s.timer.windowCount h
  unfold State.loseMains
  rw [if_pos ⟨h, hm⟩]
  show s.mainsLost.boundaryWork.boundaryWork.boundaryWork.stopFiring = _
  rw [first]
  rfl

/-- The mains stays lost and the reason pending through the three boundaries. -/
theorem State.loseMains_keeps {s : State} (h : s.timer.timer ≠ .stopped) (hm : s.timer.mains = .present) :
    s.loseMains.timer.mains = .lost ∧ s.loseMains.host.reasons &&& 0x0004 = 0x0004 := by
  have runs : s.mainsLost.RunsOn s.loseMains := by
    unfold State.loseMains
    rw [if_pos ⟨h, hm⟩]
    exact ((s.mainsLost.boundaryWork_runsOn.trans (State.boundaryWork_runsOn _)).trans (State.boundaryWork_runsOn _)).trans
      (State.mapZones_runsOn _ _)
  refine ⟨runs.mains, runs.host.keeps_reason ?_⟩
  show (s.host.reasons ||| 0x0004) &&& 0x0004 = 0x0004
  rw [BitVec.or_comm]
  exact or_keeps_reason _ (by decide)

theorem State.stopFiring_zone (s : State) (z : ZoneId) :
    (s.stopFiring.zones.zones.get z).firingStopped = true ∧ (s.stopFiring.zones.zones.get z).gate = false := by
  simp [State.stopFiring, State.mapZones]

section
variable {e : State} {w k : Nat}

/-- Nothing falls due at the three boundaries: the count is all they change. -/
theorem three_boundaries_plain (plain : ∀ c, w < c → c ≤ w + 3 → e.PlainAt c) :
    (State.boundaryWork^[3] (e.countTo w)).stopFiring = e.quenched (w + 3) fun z => (e.zones.zones.get z).fired := by
  rw [State.iterate_plain 3 plain, State.stopFiring_countTo]

/-- One of the three reaches a position: the blocks are as its row leaves them, but for the firing, unless the window then ends
among the three. -/
theorem three_boundaries_position {row : Instr} (hp : e.timer.timer = .phased) (hr : (row, k + 1) ∈ e.positionRows) (hk : w ≤ k)
    (h3 : k + 1 ≤ w + 3) (hend : k + 1 < e.endCount) :
    ∃ u, exec row (e.atCount k) = .next u
      ∧ (w + 3 < u.endCount → (State.boundaryWork^[3] (e.countTo w)).stopFiring
          = u.quenched (w + 3) fun z => (e.zones.zones.get z).fired)
      ∧ (k + 1 < u.endCount → u.endCount ≤ w + 3 →
          ∃ v, exec .windowStart (u.atCount (u.endCount - 1)) = .next v
            ∧ (State.boundaryWork^[3] (e.countTo w)).stopFiring = v.quenched (w + 3 - u.endCount) fun _ => 0) := by
  have here : k + 1 ∈ e.positions := List.mem_map_of_mem (f := Prod.snd) hr
  have before : ∀ c, w < c → c ≤ k → e.PlainAt c := fun c hw hc =>
    .inl ⟨hp, by omega, fun p hpos heq => by have := State.positions_apart hpos here (by omega); omega⟩
  have work : (e.countTo k).boundaryWork = (e.countTo (k + 1)).raisePosition := State.boundaryWork_raises hp hend
  have keeps := (e.countTo (k + 1)).raisePosition_keeps
  generalize (e.countTo (k + 1)).raisePosition = u at work keeps
  obtain ⟨⟨heard, candidate, timer⟩, own, store, fired⟩ := keeps
  have phased : u.timer.timer = .phased := by rw [timer]; exact hp
  have self : u.countTo (k + 1) = u := State.countTo_self (by rw [timer]; rfl) (by rw [timer]; rfl)
  have positions : u.positions = e.positions := by
    simp only [State.positions, State.n, State.store, own, store]
    rfl
  have after : ∀ c, k + 1 < c → c ≤ w + 3 → c < u.endCount → u.PlainAt c := fun c hc hw hu =>
    .inl ⟨phased, hu, fun p hpos heq => by
      have := State.positions_apart here (show p ∈ e.positions from positions ▸ hpos) (by omega)
      omega⟩
  have rest := State.iterate_event hk h3 before
  rw [work, ← self] at rest
  have row_work : (e.atCount k).boundaryWork = u :=
    (State.atCount_boundaryWork k (by simp [hp])).trans work
  refine ⟨u.fire, (exec_row_of_reaches (s := e.atCount k) hr ⟨hp, rfl, hend⟩).trans
    (congrArg _ (State.boundary_of_phased row_work phased)), fun hu => ?_, fun hu hw => ?_⟩
  · have count : k + 1 + (w + 3 - (k + 1)) = w + 3 := by omega
    have plain : ∀ c, k + 1 < c → c ≤ k + 1 + (w + 3 - (k + 1)) → u.PlainAt c := fun c hc hcw =>
      after c hc (by omega) (by rw [count] at hcw; exact lt_of_le_of_lt hcw hu)
    rw [State.quenched_fire, rest, State.iterate_plain _ plain, State.stopFiring_countTo, count]
    exact congrArg _ (funext fired)
  · rw [State.fire_endCount] at hu hw ⊢
    obtain ⟨v, hv, quench⟩ := exec_windowStart_after_fire (s := u) (k := u.endCount - 1) phased (by omega)
    refine ⟨v, hv, ?_⟩
    have window := State.window_among (s := u) (w := k + 1) (k := u.endCount - 1) (m := w + 3 - (k + 1)) (by omega) (by omega)
      (by omega) (fun c hc hcu => after c hc (by omega) (by omega)) rfl
      (State.boundaryWork_ends_fresh (s := u.countTo (u.endCount - 1)) ⟨phased, by show u.endCount - 1 + 1 = u.endCount; omega⟩)
    have left : k + 1 + (w + 3 - (k + 1)) - (u.endCount - 1 + 1) = w + 3 - u.endCount := by omega
    rw [rest, window, left, quench]

/-- One of the three ends the window, and none of them reaches a position before. -/
theorem three_boundaries_windowStart (hp : e.timer.timer = .phased) (hk : w ≤ k) (h3 : k + 1 ≤ w + 3) (hend : k + 1 = e.endCount)
    (clear : ∀ p ∈ e.positions, p ≤ w ∨ e.endCount ≤ p) :
    ∃ u, exec .windowStart (e.atCount k) = .next u
      ∧ (State.boundaryWork^[3] (e.countTo w)).stopFiring = u.quenched (w + 3 - e.endCount) fun _ => 0 := by
  have ends : (e.countTo k).EndsWindow := ⟨hp, hend⟩
  have fresh := State.boundaryWork_ends_fresh ends
  have row := State.boundary_of_phased (State.atCount_boundaryWork k (by simp [hp])) fresh.phased
  refine ⟨_, (exec_windowStart_of_ends (s := e.atCount k) ⟨hp, hend⟩).trans (congrArg _ row), ?_⟩
  rw [State.quenched_fire, ← hend]
  exact State.window_among hk h3 le_rfl
    (fun c hw hc => .inl ⟨hp, by omega, fun p hpos heq => by have := clear p hpos; omega⟩) rfl fresh

/-- One of the three begins the first window. -/
theorem three_boundaries_firstWindowStart {round : Nat} (hl : e.timer.timer = .listening)
    (hf : e.timer.firstStart = some ⟨k + 1, round⟩) (hk : w ≤ k) (h3 : k + 1 ≤ w + 3) :
    ∃ u, exec .firstWindowStart (e.atCount k) = .next u
      ∧ (State.boundaryWork^[3] (e.countTo w)).stopFiring = u.quenched (w + 3 - (k + 1)) fun _ => 0 := by
  have begins : (e.countTo k).boundaryWork = (e.countTo (k + 1)).firstWindowStartWork round :=
    State.boundaryWork_firstStart (s := e.countTo k) hl hf
  have row : exec .firstWindowStart (e.atCount k) = .next ((e.countTo (k + 1)).firstWindowStartWork round).fire :=
    exec_firstWindowStart_of_fixed (s := e.atCount k) hl hf
  have fresh : ((e.countTo (k + 1)).firstWindowStartWork round).FreshWindow := State.firstWindowStartWork_fresh round rfl
  have before : ∀ c, w < c → c ≤ k → e.PlainAt c := fun c hw hc => .inr ⟨hl, .inr (by simp [hf]), fun r h => by
    have := congrArg FirstStart.count (Option.some.inj (hf.symm.trans h))
    simp only at this
    omega⟩
  generalize (e.countTo (k + 1)).firstWindowStartWork round = u at begins row fresh
  refine ⟨u.fire, row, ?_⟩
  rw [State.quenched_fire]
  exact State.window_among hk h3 le_rfl before begins fresh

/-- One of the three ends listening, and the first window begins at once or is fixed for later. -/
theorem three_boundaries_listeningEnd (hl : e.timer.timer = .listening) (hf : e.timer.firstStart = none) (hn : k + 1 = e.n)
    (hk : w ≤ k) (h3 : k + 1 ≤ w + 3) :
    ∃ u, exec .listeningEnd (e.atCount k) = .next u
      ∧ (u.timer.timer = .phased →
          (State.boundaryWork^[3] (e.countTo w)).stopFiring = u.quenched (w + 3 - e.n) fun _ => 0)
      ∧ ∀ f, u.timer.timer = .listening → u.timer.firstStart = some f → w + 3 < f.count →
          (State.boundaryWork^[3] (e.countTo w)).stopFiring = u.quenched (w + 3) fun z => (e.zones.zones.get z).fired := by
  have before : ∀ c, w < c → c ≤ k → e.PlainAt c := fun c hw hc => .inr ⟨hl, .inl (by omega), by simp [hf]⟩
  have work : (e.countTo k).boundaryWork = if e.n = (fixFirstStart e.n e.timer.listening).count
      then (e.countTo k).listened.firstWindowStartWork (fixFirstStart e.n e.timer.listening).round
      else (e.countTo k).listened := State.boundaryWork_listened (s := e.countTo k) hl hn hf
  by_cases now : e.n = (fixFirstStart e.n e.timer.listening).count
  · have fixed : fixFirstStart e.n e.timer.listening = ⟨e.n, (fixFirstStart e.n e.timer.listening).round⟩ :=
      congrArg (FirstStart.mk · _) now.symm
    generalize (fixFirstStart e.n e.timer.listening).round = round at fixed
    rw [fixed, if_pos rfl] at work
    have row : exec .listeningEnd (e.atCount k) = .next ((e.countTo k).listened.firstWindowStartWork round).fire :=
      exec_listeningEnd_at_once (s := e.atCount k) hl hn hf fixed
    have fresh : ((e.countTo k).listened.firstWindowStartWork round).FreshWindow := State.firstWindowStartWork_fresh round rfl
    generalize (e.countTo k).listened.firstWindowStartWork round = u at work row fresh
    refine ⟨u.fire, row, fun _ => ?_, fun f hu => ?_⟩
    · rw [State.quenched_fire, ← hn]
      exact State.window_among hk h3 le_rfl before work fresh
    · exact absurd (fresh.phased.symm.trans hu) (by decide)
  · refine ⟨_, exec_listeningEnd_later (s := e.atCount k) hl hn hf now, fun hu => ?_, fun f _ hfix hlate => ?_⟩
    · have listening : e.timer.timer = .phased := hu
      simp [hl] at listening
    · have listened : (e.countTo k).boundaryWork = ((e.countTo k).listened).countTo (k + 1) := work.trans (if_neg now)
      have after : ∀ c, k + 1 < c → c ≤ k + 1 + (w + 3 - (k + 1)) → (e.countTo k).listened.PlainAt c := fun c _ hc => by
        have fixed : (e.countTo k).listened.timer.firstStart = some f := hfix
        refine .inr ⟨hl, .inr (by simp [fixed]), fun r h => ?_⟩
        have := congrArg FirstStart.count (Option.some.inj (fixed.symm.trans h))
        simp only at this
        omega
      have count : k + 1 + (w + 3 - (k + 1)) = w + 3 := by omega
      rw [State.iterate_event hk h3 before, listened, State.iterate_plain _ after, count, State.stopFiring_countTo]
      rfl

end

/-- Settles O22: by what the three boundaries reach, with the entry as the state before them. -/
theorem mainsLostCountsThreeAndStopsFiring : Obligations.MainsLostCountsThreeAndStopsFiring := by
  refine ⟨fun s h hm => ?_, fun s h => ?_⟩
  · intro w entered at_ left fired rows
    have lost := State.loseMains_eq h hm
    obtain ⟨mains, reason⟩ := State.loseMains_keeps h hm
    refine ⟨s.loseMains, rfl, mains, reason, fun z => by rw [lost]; exact State.stopFiring_zone _ z, ?_⟩
    rw [lost]
    refine ⟨fun hp hend clear => ?_, fun hp row p hr hw h3 hend => ?_, fun hp hw h3 clear => ?_, fun hl idle => ?_,
      fun hl c r hf hw h3 => ?_, fun hl hf hw h3 => ?_⟩
    · exact three_boundaries_plain (e := entered) fun c hc h3 => .inl ⟨hp, by show c < s.endCount; omega, fun p hpos heq => by
        have := (List.forall_mem_map (f := Prod.snd) (l := rows) (P := fun p => w + 3 < p ∨ p ≤ w)).2 clear p hpos
        omega⟩
    · obtain ⟨k, rfl⟩ : ∃ k, p = k + 1 := ⟨p - 1, by omega⟩
      exact three_boundaries_position (e := entered) hp hr (by omega) h3 hend
    · have stop : s.endCount - 1 + 1 = s.endCount := by omega
      exact three_boundaries_windowStart (e := entered) hp (by omega) (by omega) stop
        ((List.forall_mem_map (f := Prod.snd) (l := rows) (P := fun p => p ≤ w ∨ s.endCount ≤ p)).2 clear)
    · exact three_boundaries_plain (e := entered) fun c hc h3 => by
        obtain ⟨k, rfl⟩ := Nat.exists_eq_add_of_le hc.le
        exact .inr ⟨hl, idle k (by omega) (by omega)⟩
    · obtain ⟨k, rfl⟩ : ∃ k, c = k + 1 := ⟨c - 1, by omega⟩
      exact three_boundaries_firstWindowStart (e := entered) hl hf (by omega) h3
    · exact three_boundaries_listeningEnd (e := entered) hl hf (by show s.n - 1 + 1 = s.n; omega) (by omega) (by omega)
  · refine congrArg _ (if_neg ?_)
    rcases h with h | h <;> simp [h]

end Sys2Proof.Machine
end

section
/-! PROOFS. What the loader's operations keep of its stop causes: what the loader's state says of them (R126, R132, R133, R136),
and which operations move HOLD and HALT. -/

namespace Sys2Proof.Machine

/-! ### The stop-cause set -/

/-- A cause that is already as it is put changes nothing. -/
theorem StopCauses.put_of_has {c : StopCauses} {k : StopCause} {v : Bool} (h : c.has k = v) : c.put k v = c := by
  subst h
  cases k <;> rfl

theorem StopCauses.put_dwell_ne (c : StopCauses) {k : StopCause} (v : Bool) (h : k ≠ .dwell) :
    (c.put k v).dwell = c.dwell := c.has_put_ne v (j := .dwell) h.symm

/-- An empty set holds no cause. -/
theorem StopCauses.not_has_of_isEmpty {c : StopCauses} (k : StopCause) (h : c.isEmpty = true) : c.has k = false := by
  rw [StopCauses.isEmpty_iff] at h
  subst h
  cases k <;> rfl

/-! ### What a loader's state says of its stop causes -/

/-- At rest or stalled, only DWELL is ruled out. -/
theorem Loader.StopInv.of_rest {l : Loader} (hs : l.state = .atRest ∨ l.state = .stalled) (hd : l.causes.dwell = false) :
    l.StopInv := by
  rcases hs with hs | hs <;> simp [Loader.StopInv, hs, hd]

/-- An empty set fits every state but DWELL, a loader MOVING knowing its position. -/
theorem Loader.StopInv.of_empty {l : Loader} (he : l.causes.isEmpty = true) (hd : l.state ≠ .dwell)
    (hp : l.state = .moving → l.position ≠ none) : l.StopInv := by
  have empty := (StopCauses.isEmpty_iff _).1 he
  exact ⟨fun _ => empty, hp, by simp [empty], fun h => absurd h hd⟩

/-- In a stop, DWELL is a cause at a known position only. -/
theorem Loader.StopInv.of_stopping {l : Loader} (hs : l.state = .stopping) (hd : l.causes.dwell = true → l.position ≠ none) :
    l.StopInv := by
  simpa [Loader.StopInv, hs] using hd

theorem Loader.StopInv.of_dwell {l : Loader} (hs : l.state = .dwell) (hd : l.causes.dwell = true) (hp : l.position ≠ none) :
    l.StopInv := by
  simp [Loader.StopInv, hs, hd, hp]

/-- Only state, causes and whether the position is known matter. -/
theorem Loader.StopInv.congr {l m : Loader} (h : l.StopInv) (hs : m.state = l.state) (hc : m.causes = l.causes)
    (hp : l.position ≠ none → m.position ≠ none) : m.StopInv := by
  obtain ⟨moves, known, dwell, dwells⟩ := h
  unfold Loader.StopInv
  rw [hs, hc]
  exact ⟨moves, hp ∘ known, fun k => ⟨(dwell k).1, hp (dwell k).2⟩, dwells⟩

/-- A loader MOVING knows its position. -/
theorem Loader.StopInv.position_known {l : Loader} (h : l.StopInv) (hs : l.state = .moving) : l.position ≠ none :=
  have ⟨_, known, _, _⟩ := h
  known hs

/-- DWELL is a cause only of a stop or of the state DWELL, at a known position. -/
theorem Loader.StopInv.of_dwell_cause {l : Loader} (h : l.StopInv) (hd : l.causes.dwell = true) :
    (l.state = .stopping ∨ l.state = .dwell) ∧ l.position ≠ none :=
  have ⟨_, _, dwell, _⟩ := h
  dwell hd

/-- It is one throughout the state DWELL. -/
theorem Loader.StopInv.dwell_cause {l : Loader} (h : l.StopInv) (hs : l.state = .dwell) : l.causes.dwell = true :=
  have ⟨_, _, _, dwells⟩ := h
  dwells hs

/-- A loader under way, or waiting for the curtain, has no stop cause. -/
theorem Loader.StopInv.isEmpty {l : Loader} (h : l.StopInv)
    (hs : l.state = .homing ∨ l.state = .moving ∨ l.state = .waitCurtain) : l.causes.isEmpty = true :=
  (StopCauses.isEmpty_iff _).2 (h.1 hs)

/-- Outside STOPPING and DWELL, the cause DWELL is absent. -/
theorem Loader.StopInv.no_dwell {l : Loader} (h : l.StopInv) (h1 : l.state ≠ .stopping) (h2 : l.state ≠ .dwell) :
    l.causes.dwell = false := by
  by_contra hd
  exact (h.of_dwell_cause (by simpa using hd)).1.elim h1 h2

/-- An unknown position goes without DWELL. -/
theorem Loader.StopInv.no_dwell_of_unknown {l : Loader} (h : l.StopInv) (hp : l.position = none) : l.causes.dwell = false := by
  by_contra hd
  exact (h.of_dwell_cause (by simpa using hd)).2 hp

/-! ### Motion starts and their ends -/

theorem Loader.reached_stopInv (l : Loader) : l.reached.StopInv := .of_rest (.inl rfl) rfl

theorem Loader.enterMoving_stopInv {l : Loader} (d : Direction) (he : l.causes.isEmpty = true) (hp : l.position ≠ none) :
    (l.enterMoving d).StopInv := .of_empty he (by simp [Loader.enterMoving]) fun _ => hp

theorem Loader.endHoming_stopInv {l : Loader} (he : l.causes.isEmpty = true) : l.endHoming.StopInv := by
  unfold Loader.endHoming
  dsimp only
  split
  · exact Loader.reached_stopInv _
  · exact Loader.enterMoving_stopInv _ he (by simp)

theorem Loader.beginMotion_stopInv {l : Loader} (he : l.causes.isEmpty = true) : l.beginMotion.StopInv := by
  unfold Loader.beginMotion
  split
  · rename_i p hp
    exact Loader.enterMoving_stopInv _ he (by simp [hp])
  · dsimp only
    split
    · exact Loader.endHoming_stopInv he
    · exact .of_empty he (by simp) (by simp)

theorem Loader.motionStart_stopInv (e : Bool) {l : Loader} (h : l.StopInv) : (l.motionStart e).StopInv := by
  unfold Loader.motionStart
  split
  · rename_i start
    obtain ⟨rest, -, -, empty⟩ := start
    split
    · exact h.congr rfl rfl id
    · dsimp only
      split
      · exact Loader.beginMotion_stopInv empty
      · exact .of_empty empty (by simp) (by simp)
  · exact h

/-- A stop that ends: a DWELL stop knows its position. -/
theorem Loader.endStop_stopInv (e : Bool) {l : Loader} (hd : l.causes.dwell = true → l.position ≠ none) :
    (l.endStop e).StopInv := by
  unfold Loader.endStop
  dsimp only
  split
  · rename_i empty
    exact Loader.motionStart_stopInv e (.of_empty empty (by simp) (by simp))
  · split
    · rename_i dwell
      exact .of_dwell rfl dwell (hd dwell)
    · rename_i dwell
      exact .of_rest (.inl rfl) (by simpa using dwell)

/-- A stall leaves no DWELL behind. -/
theorem Loader.stall_stopInv {l : Loader} (h : l.causes.dwell = false) : l.stall.StopInv := .of_rest (.inr rfl) h

/-! ### Stop causes that enter and leave -/

/-- DWELL enters the set of a loader MOVING alone; the other causes enter in any state. -/
theorem Loader.addCause_stopInv (e : Bool) {k : StopCause} {l : Loader} (h : l.StopInv)
    (hk : k = .dwell → l.state = .moving) : (l.addCause e k).StopInv := by
  unfold Loader.addCause
  split
  · exact h
  have under_way : l.state = .homing ∨ l.state = .moving →
      (l.causes.put k true).dwell = true → l.position ≠ none := fun hs hd => by
    by_cases dwell : k = .dwell
    · exact h.position_known (hk dwell)
    · rw [StopCauses.put_dwell_ne _ _ dwell, h.no_dwell (by rcases hs with hs | hs <;> simp [hs])
        (by rcases hs with hs | hs <;> simp [hs])] at hd
      exact absurd hd (by simp)
  have stopping : l.state = .homing ∨ l.state = .moving → ∀ m : Loader,
      m = { l with causes := l.causes.put k true, state := .stopping } →
      (if m.speed = 0 then m.endStop e else m).StopInv := by
    rintro hs m rfl
    split
    · exact Loader.endStop_stopInv e (under_way hs)
    · exact .of_stopping rfl (under_way hs)
  have other : l.state ≠ .moving → (l.causes.put k true).dwell = l.causes.dwell := fun hs =>
    StopCauses.put_dwell_ne _ _ fun dwell => hs (hk dwell)
  cases hs : l.state with
  | homing => simpa [hs] using stopping (.inl hs) _ rfl
  | moving => simpa [hs] using stopping (.inr hs) _ rfl
  | waitCurtain => exact .of_rest (.inl rfl) ((other (by simp [hs])).trans (h.no_dwell (by simp [hs]) (by simp [hs])))
  | atRest => exact .of_rest (.inl rfl) ((other (by simp [hs])).trans (h.no_dwell (by simp [hs]) (by simp [hs])))
  | stalled => exact .of_rest (.inr rfl) ((other (by simp [hs])).trans (h.no_dwell (by simp [hs]) (by simp [hs])))
  | stopping => exact .of_stopping rfl fun hd => (h.of_dwell_cause ((other (by simp [hs])).symm.trans hd)).2
  | dwell =>
    have dwell := h.dwell_cause hs
    exact .of_dwell rfl ((other (by simp [hs])).trans dwell) (h.of_dwell_cause dwell).2

theorem Loader.removeCause_stopInv (e : Bool) (k : StopCause) {l : Loader} (h : l.StopInv) : (l.removeCause e k).StopInv := by
  unfold Loader.removeCause
  split
  · rename_i has
    have idle : l.state ≠ .homing ∧ l.state ≠ .moving ∧ l.state ≠ .waitCurtain := by
      by_contra under_way
      have := StopCauses.not_has_of_isEmpty k (h.isEmpty (by tauto))
      simp [has] at this
    have less : (l.causes.put k false).dwell = true → k ≠ .dwell ∧ l.causes.dwell = true := fun hd => by
      by_cases dwell : k = .dwell
      · subst dwell
        exact absurd hd (by simp [StopCauses.put])
      · exact ⟨dwell, StopCauses.put_dwell_ne _ _ dwell ▸ hd⟩
    have gone : l.causes.dwell = false → (l.causes.put k false).dwell = false := fun hd =>
      Bool.eq_false_iff.2 fun hk => by simp [(less hk).2] at hd
    cases hs : l.state with
    | homing | moving | waitCurtain => simp [hs] at idle
    | atRest =>
      exact Loader.motionStart_stopInv e (.of_rest (.inl rfl) (gone (h.no_dwell (by simp [hs]) (by simp [hs]))))
    | stalled => exact .of_rest (.inr rfl) (gone (h.no_dwell (by simp [hs]) (by simp [hs])))
    | stopping => exact .of_stopping rfl fun hd => (h.of_dwell_cause (less hd).2).2
    | dwell =>
      have dwell := h.dwell_cause hs
      dsimp only
      split
      · rename_i empty
        exact Loader.motionStart_stopInv e (.of_empty empty (by simp) (by simp))
      · split
        · rename_i hk
          subst hk
          exact .of_rest (.inl rfl) rfl
        · rename_i hk
          exact .of_dwell rfl ((StopCauses.put_dwell_ne _ _ hk).trans dwell) (h.of_dwell_cause dwell).2
  · exact h

/-! ### HOLD and HALT -/

/-- The two stop causes that come and go with the station's state (R132). -/
def StopCauses.station (c : StopCauses) : Bool × Bool := (c.hold, c.halt)

/-- The other causes leave them as they are. -/
theorem StopCauses.station_put (c : StopCauses) {k : StopCause} (v : Bool) (h : k ≠ .hold ∧ k ≠ .halt) :
    (c.put k v).station = c.station := by
  cases k <;> simp_all [StopCauses.put, StopCauses.station]

@[simp] theorem Loader.endHoming_station (l : Loader) : l.endHoming.causes.station = l.causes.station := by
  unfold Loader.endHoming
  dsimp only
  split <;> rfl

@[simp] theorem Loader.beginMotion_station (l : Loader) : l.beginMotion.causes.station = l.causes.station := by
  unfold Loader.beginMotion
  split
  · rfl
  · dsimp only
    split
    · exact Loader.endHoming_station _
    · rfl

@[simp] theorem Loader.motionStart_station (e : Bool) (l : Loader) : (l.motionStart e).causes.station = l.causes.station := by
  obtain h | ⟨-, -, h⟩ | ⟨-, -, h⟩ | ⟨-, -, -, h⟩ := l.motionStart_cases e
  · rw [h]
  · rw [h]
  · rw [h]
  · rw [h]
    exact Loader.beginMotion_station _

@[simp] theorem Loader.endStop_station (e : Bool) (l : Loader) : (l.endStop e).causes.station = l.causes.station := by
  unfold Loader.endStop
  dsimp only
  split
  · exact Loader.motionStart_station e _
  · split <;> rfl

theorem Loader.addCause_station (e : Bool) (k : StopCause) (l : Loader) :
    (l.addCause e k).causes.station = (l.causes.put k true).station := by
  rw [Loader.addCause_causes]
  split
  · rename_i has
    rw [StopCauses.put_of_has has]
  · rfl

theorem Loader.removeCause_station (e : Bool) (k : StopCause) (l : Loader) :
    (l.removeCause e k).causes.station = (l.causes.put k false).station := by
  unfold Loader.removeCause
  split
  · dsimp only
    split
    case h_1 => exact Loader.motionStart_station e _
    case h_2 =>
      split
      · exact Loader.motionStart_station e _
      · split <;> rfl
    all_goals rfl
  · rename_i has
    rw [StopCauses.put_of_has (by simpa using has)]

/-! ### What the loader does by itself -/

/-- An operation keeps what the loader's state says of its stop causes, and neither adds nor removes HOLD or HALT. -/
structure Loader.Keeps (l m : Loader) : Prop where
  stop : l.StopInv → m.StopInv
  station : m.causes.station = l.causes.station

theorem Loader.Keeps.rfl {l : Loader} : l.Keeps l := ⟨id, Eq.refl _⟩

theorem Loader.Keeps.trans {l m n : Loader} (h : l.Keeps m) (k : m.Keeps n) : l.Keeps n :=
  ⟨k.stop ∘ h.stop, k.station.trans h.station⟩

/-- State, causes and position stay. -/
theorem Loader.Keeps.of_eq {l m : Loader} (hs : m.state = l.state) (hc : m.causes = l.causes) (hp : m.position = l.position) :
    l.Keeps m := ⟨fun h => h.congr hs hc (by rw [hp]; exact id), by rw [hc]⟩

theorem Loader.addCause_keeps_station (e : Bool) {k : StopCause} {l : Loader} (hk : k ≠ .hold ∧ k ≠ .halt)
    (hd : k = .dwell → l.state = .moving) : l.Keeps (l.addCause e k) :=
  ⟨fun h => Loader.addCause_stopInv e h hd, (l.addCause_station e k).trans (StopCauses.station_put _ _ hk)⟩

theorem Loader.removeCause_keeps_station (e : Bool) {k : StopCause} (l : Loader) (hk : k ≠ .hold ∧ k ≠ .halt) :
    l.Keeps (l.removeCause e k) :=
  ⟨fun h => Loader.removeCause_stopInv e k h, (l.removeCause_station e k).trans (StopCauses.station_put _ _ hk)⟩

theorem Loader.motionStart_keeps (e : Bool) (l : Loader) : l.Keeps (l.motionStart e) :=
  ⟨fun h => Loader.motionStart_stopInv e h, l.motionStart_station e⟩

theorem Loader.reached_keeps (l : Loader) : l.Keeps l.reached := ⟨fun _ => l.reached_stopInv, rfl⟩

/-- A step at a known position leaves it known; a stall comes at an unknown one, where DWELL is no cause. -/
theorem Loader.stepOnce_keeps (stroke : Nat) (l : Loader) : l.Keeps (l.stepOnce stroke).1 := by
  have moved : ∀ p : Nat, l.Keeps { l with position := some p, stepOut := true } := fun p =>
    ⟨fun h => h.congr rfl rfl (by simp), rfl⟩
  unfold Loader.stepOnce
  split
  · split
    · split
      · dsimp only
        split
        · exact (moved _).trans (Loader.reached_keeps _)
        · exact moved _
      · exact .rfl
    · split
      · dsimp only
        split
        · exact (moved _).trans (Loader.reached_keeps _)
        · exact moved _
      · exact .rfl
  · rename_i unknown
    split
    · exact ⟨fun h => Loader.stall_stopInv (h.no_dwell_of_unknown unknown), rfl⟩
    · exact .of_eq rfl rfl rfl

theorem Loader.issueSteps_keeps (stroke : Nat) : ∀ (k : Nat) (r : Loader × Bool), r.1.Keeps (Loader.issueSteps stroke k r).1
  | 0, _ => .rfl
  | k + 1, r => by
    refine Loader.Keeps.trans ?_ (Loader.issueSteps_keeps stroke k _)
    split
    · exact .rfl
    · exact r.1.stepOnce_keeps stroke

theorem Loader.tick_keeps (stroke : Nat) (l : Loader) : l.Keeps (l.tick stroke).1 := by
  unfold Loader.tick
  dsimp only
  split
  · refine Loader.Keeps.trans ?_ (Loader.issueSteps_keeps stroke _ (_, false))
    exact .of_eq rfl rfl rfl
  · exact .of_eq rfl rfl rfl

theorem Loader.speedUpdate_keeps (e : Bool) (cfg : LoaderConfig) (t : PerEight (Option Band)) (l : Loader) :
    l.Keeps (l.speedUpdate e cfg t) := by
  unfold Loader.speedUpdate
  split
  · split
    · exact .of_eq rfl rfl rfl
    · exact .rfl
  · exact .of_eq rfl rfl rfl
  · dsimp only
    generalize l.speed - (if l.causes.halt = true then cfg.stopStep else cfg.accel) = v
    split
    · exact ⟨fun h => Loader.endStop_stopInv e fun hd => (h.of_dwell_cause hd).2, l.endStop_station e⟩
    · exact .of_eq rfl rfl rfl
  · exact .rfl
  · exact .rfl
  · exact .rfl
  · exact .rfl

/-- The home switch makes the position known (R124). -/
theorem Loader.homeActivation_keeps (e : Bool) (l : Loader) : l.Keeps (l.homeActivation e) := by
  unfold Loader.homeActivation
  split
  · rename_i homing
    exact ⟨fun h => Loader.endHoming_stopInv (h.isEmpty (.inl homing)), l.endHoming_station⟩
  · rename_i moving
    split
    · dsimp only
      split
      · exact ⟨fun _ => Loader.reached_stopInv _, rfl⟩
      · exact ⟨fun h => Loader.enterMoving_stopInv _ (h.isEmpty (.inr (.inl moving))) (by simp), rfl⟩
    · exact .rfl
  · split
    · exact ⟨fun _ => Loader.endStop_stopInv e (by simp), Loader.endStop_station e _⟩
    · exact .rfl
  · exact .rfl
  · exact .rfl
  · exact .rfl
  · exact .rfl

theorem Loader.curtainLost_keeps (l : Loader) : l.Keeps l.curtainLost := by
  unfold Loader.curtainLost
  split
  · exact Loader.addCause_keeps_station false (by decide) (fun h => absurd h (by decide))
  · exact .rfl

theorem Loader.curtainEstablished_keeps (l : Loader) : l.Keeps l.curtainEstablished := by
  have removed := l.removeCause_keeps_station true (k := .curtain) (by decide)
  unfold Loader.curtainEstablished
  dsimp only
  split
  · rename_i waits
    exact removed.trans
      ⟨fun h => Loader.beginMotion_stopInv (h.isEmpty (.inr (.inr waits))), Loader.beginMotion_station _⟩
  · exact removed

theorem Loader.takePart_keeps (e : Bool) (b : Option BoatSpec) (l : Loader) : l.Keeps (l.takePart e b) := by
  cases b with
  | none => exact .of_eq rfl rfl rfl
  | some b =>
    refine Loader.Keeps.trans ?_ (Loader.motionStart_keeps e _)
    exact .of_eq rfl rfl rfl

/-- The part that leaves takes DWELL with it, and the state DWELL (R125). -/
theorem Loader.leavePart_keeps (l : Loader) : l.Keeps l.leavePart := by
  refine ⟨fun ⟨moves, known, dwell, dwells⟩ => ?_, rfl⟩
  by_cases rests : l.state = .waitCurtain ∨ l.state = .dwell
  · exact .of_rest (.inl (if_pos rests)) rfl
  · have state : l.leavePart.state = l.state := if_neg rests
    refine ⟨fun h => ?_, fun h => known (state.symm.trans h), fun h => absurd h (by simp [Loader.leavePart]),
      fun h => absurd (.inr (state.symm.trans h)) rests⟩
    rw [state] at h
    simp [Loader.leavePart, moves h]

theorem Loader.amend_keeps (maxSpeed : Nat) (a : AmendFields) (l : Loader) : l.Keeps (l.amend maxSpeed a) := by
  unfold Loader.amend
  split
  · exact .of_eq rfl rfl rfl
  · exact .rfl

/-- The dwell check stalls without DWELL, and puts it on a loader MOVING alone (R136). -/
theorem Loader.dwellCheck_keeps (e recovered lagging : Bool) (l : Loader) :
    l.Keeps (l.dwellCheck e recovered lagging).1 := by
  unfold Loader.dwellCheck
  dsimp only
  generalize (if l.causes.dwell = true then satAdd1 65535 l.dwellTotal else l.dwellTotal) = total
  split
  · exact ⟨fun _ => Loader.stall_stopInv rfl, rfl⟩
  · have counted : l.Keeps { l with dwellTotal := total } := .of_eq rfl rfl rfl
    have released : l.Keeps (if l.state = .dwell ∧ (l.part.dwellBand = 0 ∨ recovered = true) then
        ({ l with dwellTotal := total } : Loader).removeCause e .dwell else { l with dwellTotal := total }) := by
      split
      · exact counted.trans (Loader.removeCause_keeps_station e _ (by decide))
      · exact counted
    have stopped : ∀ m : Loader, l.Keeps m → l.Keeps (if m.state = .moving ∧ m.direction = .inward
        ∧ 0 < m.part.dwellBand ∧ lagging = true then m.addCause e .dwell else m) := fun m hm => by
      split
      · rename_i stops
        exact hm.trans (Loader.addCause_keeps_station e (by decide) fun _ => stops.1)
      · exact hm
    exact stopped _ released

end Sys2Proof.Machine
end

section
/-! PROOFS. Every boundary's work keeps the bond of station state and stop causes (R132, R163, R164), and what the loader's state
says of them. -/

namespace Sys2Proof.Machine

/-! ### The bond of station state and stop causes -/

/-- Which of HOLD and HALT a station state has among the stop causes: HALTED has HALT, with or without HOLD; HELD has HOLD alone,
and the other states neither. -/
def StationState.Fits (st : StationState) (c : Bool × Bool) : Prop :=
  match st with
  | .held => c = (true, false)
  | .halted => c.2 = true
  | .unconfigured | .joining | .idle | .running => c = (false, false)

/-- A state in which neither HOLD nor HALT is a stop cause. -/
def StationState.isFree : StationState → Bool
  | .held | .halted => false
  | .unconfigured | .joining | .idle | .running => true

theorem StationState.fits_of_isFree {st : StationState} (h : st.isFree = true) (c : Bool × Bool) :
    st.Fits c ↔ c = (false, false) := by
  cases st <;> simp_all [StationState.Fits, StationState.isFree]

/-- Outside HALTED, HALT is no stop cause. -/
theorem StationState.Fits.no_halt {st : StationState} {c : Bool × Bool} (h : st.Fits c) (hs : st ≠ .halted) : c.2 = false := by
  cases st <;> simp_all [StationState.Fits]

/-- The bond as it stands in the invariant. -/
theorem State.causeInv_iff (s : State) : s.CauseInv ↔ s.TimerInv ∧ s.sup.station.Fits s.loader.causes.station := by
  unfold State.CauseInv StopCauses.station
  refine and_congr_right fun _ => ?_
  cases s.sup.station <;> cases s.loader.causes.hold <;> cases s.loader.causes.halt <;> simp [StationState.Fits]

/-- From `s` to `t` the bond of station state and stop causes is kept, and so is what the loader's state says of them. -/
structure State.KeepsCauses (s t : State) : Prop where
  fits : s.sup.station.Fits s.loader.causes.station → t.sup.station.Fits t.loader.causes.station
  stop : s.loader.StopInv → t.loader.StopInv

theorem State.KeepsCauses.rfl {s : State} : s.KeepsCauses s := ⟨id, id⟩

theorem State.KeepsCauses.trans {s t u : State} (h : s.KeepsCauses t) (k : t.KeepsCauses u) : s.KeepsCauses u :=
  ⟨k.fits ∘ h.fits, k.stop ∘ h.stop⟩

/-- The station stays, and the loader does what it does by itself. -/
theorem State.KeepsCauses.of_loader {s t : State} (hs : t.sup.station = s.sup.station) (hl : s.loader.Keeps t.loader) :
    s.KeepsCauses t := ⟨by rw [hs, hl.station]; exact id, hl.stop⟩

theorem State.KeepsCauses.of_eq {s t : State} (hs : t.sup.station = s.sup.station) (hl : t.loader = s.loader) :
    s.KeepsCauses t := .of_loader hs (hl ▸ .rfl)

theorem State.setLoader_keepsCauses {s : State} {l : Loader} (h : s.loader.Keeps l) : s.KeepsCauses (s.setLoader l) :=
  .of_loader rfl h

/-! ### The station's moves -/

/-- A move between two states without HOLD and HALT. -/
theorem State.setStation_keepsCauses {s : State} {st : StationState} (h : s.sup.station.isFree = true)
    (k : st.isFree = true) : s.KeepsCauses (s.setStation st) :=
  ⟨fun fits => (StationState.fits_of_isFree k _).2 ((StationState.fits_of_isFree h _).1 fits), id⟩

/-- Outside HALTED the station enters HELD with HOLD alone. -/
theorem State.enterHeld_keepsCauses {s : State} (h : s.sup.station ≠ .halted) : s.KeepsCauses s.enterHeld where
  fits := fun fits => by
    show (s.loader.addCause s.gas.established .hold).causes.station = (true, false)
    rw [Loader.addCause_station]
    exact congrArg (Prod.mk true) (fits.no_halt h)
  stop := fun stop => Loader.addCause_stopInv _ stop (fun e => absurd e (by decide))

/-- HALT enters the set with the state HALTED (R163). -/
theorem State.halt_keepsCauses (s : State) : s.KeepsCauses s.halt := by
  unfold State.halt
  dsimp only
  split
  · exact .of_eq rfl rfl
  · refine ⟨fun _ => ?_, fun stop => Loader.addCause_stopInv _ stop (fun e => absurd e (by decide))⟩
    show (s.loader.addCause s.gas.established .halt).causes.station.2 = true
    rw [Loader.addCause_station]
    rfl

/-- CLEAR_HALT's move leaves HOLD alone (R164). -/
theorem State.clearHaltToHeld_keepsCauses (s : State) : s.KeepsCauses s.clearHaltToHeld where
  fits := fun _ => by
    show ((s.loader.addCause s.gas.established .hold).removeCause s.gas.established .halt).causes.station = (true, false)
    have hold : (s.loader.addCause s.gas.established .hold).causes.hold = true := by
      have h := congrArg Prod.fst (s.loader.addCause_station s.gas.established .hold)
      exact h
    rw [Loader.removeCause_station]
    exact congrArg (Prod.mk · false) hold
  stop := fun stop => Loader.removeCause_stopInv _ _ (Loader.addCause_stopInv _ stop (fun e => absurd e (by decide)))

theorem State.report_keepsCauses (s : State) : s.KeepsCauses s.report := by
  unfold State.report
  split
  · rename_i h
    exact State.enterHeld_keepsCauses (by rcases h with h | h <;> simp [h])
  · exact .rfl

theorem State.loaderStalled_keepsCauses (s : State) : s.KeepsCauses s.loaderStalled :=
  State.KeepsCauses.trans (t := s.raise reasonLoaderFault) (.of_eq rfl rfl) (State.report_keepsCauses _)

/-- HOLD leaves with the state HELD, for a state without HOLD and HALT. -/
theorem State.removeHold_keepsCauses {s u : State} (h : s.sup.station = .held) (hu : u.sup.station.isFree = true)
    (causes : u.loader.causes = s.loader.causes) (stop : s.loader.StopInv → u.loader.StopInv) :
    s.KeepsCauses (u.removeCause .hold) where
  fits := fun fits => (StationState.fits_of_isFree hu _).2 <| by
    have halt : s.loader.causes.halt = false := fits.no_halt (by simp [h])
    show (u.loader.removeCause u.gas.established .hold).causes.station = (false, false)
    rw [Loader.removeCause_station, causes]
    exact congrArg (Prod.mk false) halt
  stop := fun k => Loader.removeCause_stopInv _ _ (stop k)

/-- RESUME takes HOLD with the state HELD, and a stalled loader to rest (R150). -/
theorem State.resume_keepsCauses {s : State} (h : s.sup.station = .held) : s.KeepsCauses s.resume := by
  have free : (s.setStation (if s.exec.current.isSome then .running else .idle)).sup.station.isFree = true := by
    show (if s.exec.current.isSome then StationState.running else .idle).isFree = true
    split <;> rfl
  have loader : (s.setStation (if s.exec.current.isSome then .running else .idle)).loader = s.loader := rfl
  unfold State.resume
  generalize s.setStation (if s.exec.current.isSome then .running else .idle) = u at free loader
  dsimp only
  split
  · rename_i stalled
    rw [loader] at stalled ⊢
    exact State.removeHold_keepsCauses h free rfl fun k =>
      .of_rest (.inl rfl) (k.no_dwell (by simp [stalled]) (by simp [stalled]))
  · exact State.removeHold_keepsCauses h free (by rw [loader]) (by rw [loader]; exact id)

/-! ### The sequence position -/

theorem State.applyShadow_keepsCauses (s : State) : s.KeepsCauses s.applyShadow := by
  unfold State.applyShadow
  split
  · exact .of_eq rfl rfl
  · exact .of_loader rfl (Loader.amend_keeps _ _ _)

theorem State.finishUrgent_keepsCauses (s : State) (r : UrgentResult) : s.KeepsCauses (s.finishUrgent r) := .of_eq rfl rfl

theorem State.takeUrgent_keepsCauses (s : State) : s.KeepsCauses s.takeUrgent := by
  unfold State.takeUrgent
  split
  · exact .rfl
  · unfold State.takeSkip
    split
    · split
      · exact .of_loader rfl (Loader.addCause_keeps_station _ (by decide) (fun h => absurd h (by decide)))
      · exact s.finishUrgent_keepsCauses _
    · exact s.finishUrgent_keepsCauses _
  · unfold State.takeHold
    split
    · rename_i h
      exact (State.enterHeld_keepsCauses (by rcases h with h | h <;> simp [h])).trans (State.finishUrgent_keepsCauses _ _)
    · exact s.finishUrgent_keepsCauses _
  · unfold State.takeResume
    split
    · rename_i h
      exact (State.resume_keepsCauses h.1).trans (State.finishUrgent_keepsCauses _ _)
    · exact s.finishUrgent_keepsCauses _
  · exact .of_eq rfl rfl

theorem State.endSegment_keepsCauses (s : State) (c : CurrentSegment) (r : SegmentResult) :
    s.KeepsCauses (s.endSegment c r) := .of_loader rfl s.loader.leavePart_keeps

theorem State.startHead_keepsCauses (s : State) (g : Segment) (rest : List Segment) :
    s.KeepsCauses (s.startHead g rest) := by
  have thermal : ∀ (u : State) (h : Option ThermalSpec), (u.takeThermal h).loader = u.loader
      ∧ (u.takeThermal h).sup = u.sup := fun u h => by cases h <;> exact ⟨rfl, rfl⟩
  have gas : ∀ (u : State) (p : Option GasSpec), (u.takeGas p).loader = u.loader
      ∧ (u.takeGas p).sup = u.sup := fun u p => by cases p <;> exact ⟨rfl, rfl⟩
  unfold State.startHead
  refine .of_loader ?_ ?_
  · simp [thermal, gas]
  · simp only [State.raiseIf_loader, State.setLoader_loader, gas, thermal, State.setExec_loader]
    exact s.loader.takePart_keeps _ _

theorem State.afterEnd_keepsCauses (s : State) : s.KeepsCauses s.afterEnd := by
  unfold State.afterEnd
  split
  · rename_i running
    split
    · exact (State.setStation_keepsCauses (by rw [running]; rfl) rfl).trans (.of_eq rfl rfl)
    · exact s.startHead_keepsCauses _ _
  · exact .rfl

theorem State.judgeSegment_keepsCauses (s : State) : s.KeepsCauses s.judgeSegment := by
  unfold State.judgeSegment
  split
  · split
    · split
      · exact (s.endSegment_keepsCauses _ _).trans (State.afterEnd_keepsCauses _)
      · exact .rfl
    · split
      · exact (s.endSegment_keepsCauses _ _).trans (State.afterEnd_keepsCauses _)
      · exact .rfl
  · split
    · rename_i idle
      split
      · exact .rfl
      · exact (State.setStation_keepsCauses (by rw [idle]; rfl) rfl).trans (State.startHead_keepsCauses _ _ _)
    · exact .rfl

theorem State.executorSequence_keepsCauses (s : State) : s.KeepsCauses s.executorSequence :=
  (s.applyShadow_keepsCauses.trans (State.takeUrgent_keepsCauses _)).trans (State.judgeSegment_keepsCauses _)

theorem State.endJoining_keepsCauses (s : State) : s.KeepsCauses s.endJoining := by
  unfold State.endJoining
  split
  · rename_i h
    split
    · exact State.enterHeld_keepsCauses (by simp [h.1])
    · exact State.setStation_keepsCauses (by rw [h.1]; rfl) rfl
  · exact .rfl

/-- In either of its two orders, the sequence position keeps the bond. -/
theorem State.sequenceWork_keepsCauses (s : State) : s.KeepsCauses s.sequenceWork := by
  have ha := s.endJoining_keepsCauses.trans (State.executorSequence_keepsCauses _)
  have hb := s.executorSequence_keepsCauses.trans (State.endJoining_keepsCauses _)
  unfold State.sequenceWork
  split
  · refine State.KeepsCauses.trans (t := ite _ _ (ite _ _ _)) ?_ (.of_eq rfl rfl)
    split
    · exact ha
    · split
      · exact ha
      · exact hb
  · exact s.executorSequence_keepsCauses

/-! ### The window start -/

theorem State.rampStep_keepsCauses (s : State) : s.KeepsCauses s.rampStep := by
  have loader : s.rampStep.loader = s.loader := by
    unfold State.rampStep
    dsimp only
    split
    · split
      · split <;> rfl
      · rfl
    · rfl
  exact .of_eq (congrArg Supervisor.station s.rampStep_sup) loader

theorem State.countWindow_keepsCauses (s : State) : s.KeepsCauses s.countWindow := by
  have loader : s.countWindow.loader = s.loader := by
    unfold State.countWindow
    split
    · split
      · rfl
      · split <;> rfl
    · rfl
  exact .of_eq (congrArg Supervisor.station s.countWindow_sup) loader

theorem State.loseCurtain_keepsCauses (s : State) : s.KeepsCauses s.loseCurtain := by
  refine .of_loader (by simp [State.loseCurtain]) ?_
  simp only [State.loseCurtain, State.setLoader_loader, State.setGas_loader]
  exact s.loader.curtainLost_keeps

theorem State.establishCurtain_keepsCauses (s : State) : s.KeepsCauses s.establishCurtain :=
  .of_loader rfl s.loader.curtainEstablished_keeps

theorem State.judgeCurtain_keepsCauses (s : State) : s.KeepsCauses s.judgeCurtain := by
  unfold State.judgeCurtain
  dsimp only
  split
  · split
    · exact .of_eq rfl rfl
    · exact s.establishCurtain_keepsCauses
  · exact .of_eq rfl rfl
  · exact .of_eq rfl rfl
  · split
    · exact .of_eq rfl rfl
    · exact s.loseCurtain_keepsCauses

theorem State.dwellWork_keepsCauses (s : State) : s.KeepsCauses s.dwellWork := by
  unfold State.dwellWork
  dsimp only
  split
  · exact (State.setLoader_keepsCauses (Loader.dwellCheck_keeps _ _ _ _)).trans (State.loaderStalled_keepsCauses _)
  · exact State.setLoader_keepsCauses (Loader.dwellCheck_keeps _ _ _ _)

theorem State.doIf_keepsCauses {s : State} {f : State → State} (c : Bool) (h : s.KeepsCauses (f s)) :
    s.KeepsCauses (s.doIf c f) := by
  cases c
  · exact .rfl
  · exact h

/-- Ramp step, curtain judgement and window count, each of them done or not. -/
theorem State.doIfs_keepsCauses (ramp curtain count : Bool) (s : State) :
    s.KeepsCauses (((s.doIf ramp State.rampStep).doIf curtain State.judgeCurtain).doIf count State.countWindow) :=
  ((State.doIf_keepsCauses ramp s.rampStep_keepsCauses).trans
    (State.doIf_keepsCauses curtain (State.judgeCurtain_keepsCauses _))).trans
    (State.doIf_keepsCauses count (State.countWindow_keepsCauses _))

theorem State.orderedWork_keepsCauses (o : WindowOrder) (s : State) : s.KeepsCauses (s.orderedWork o) :=
  ((s.doIfs_keepsCauses o.rampFirst o.curtainFirst o.countFirst).trans (State.dwellWork_keepsCauses _)).trans
    (State.doIfs_keepsCauses _ _ _ _)

theorem State.openOrderWork_keepsCauses (s : State) : s.KeepsCauses s.openOrderWork := by
  obtain ⟨o, k, h⟩ := s.openOrderWork_is_ordered
  rw [h]
  exact (s.orderedWork_keepsCauses o).trans (.of_eq rfl rfl)

theorem State.beforeOpenOrder_keepsCauses (s : State) : s.KeepsCauses s.beforeOpenOrder := by
  refine .of_eq (congrArg Supervisor.station s.beforeOpenOrder_keeps.1) ?_
  unfold State.beforeOpenOrder
  dsimp only
  obtain ⟨n, b, c, h⟩ := State.judgeFlow_eq
    (s.bankWindowStart.handOverDuties.setScanner s.bankWindowStart.handOverDuties.scanner.closeWindow).countVolume
  rw [h]
  simp [State.countVolume, State.handOverDuties, State.mapZones, State.bankWindowStart]

theorem State.windowBlocks_keepsCauses (s : State) : s.KeepsCauses s.windowBlocks :=
  (s.beforeOpenOrder_keepsCauses.trans (State.openOrderWork_keepsCauses _)).trans (.of_eq rfl rfl)

/-! ### The loader's ticks -/

theorem State.tickSteps_keepsCauses (s : State) : s.KeepsCauses s.tickSteps := by
  unfold State.tickSteps
  dsimp only
  split
  · exact (State.setLoader_keepsCauses (Loader.tick_keeps _ _)).trans (State.loaderStalled_keepsCauses _)
  · exact State.setLoader_keepsCauses (Loader.tick_keeps _ _)

theorem State.motionTick_keepsCauses (s : State) : s.KeepsCauses s.motionTick := by
  have phase : ∀ (u : State) (n : Nat), u.KeepsCauses (u.setLoader { u.loader with tickPhase := n }) := fun u n =>
    State.setLoader_keepsCauses (.of_eq rfl rfl rfl)
  have speed : ∀ u : State, u.KeepsCauses u.speedUpdate := fun u =>
    State.setLoader_keepsCauses (Loader.speedUpdate_keeps _ _ _ _)
  unfold State.motionTick
  dsimp only
  split
  · exact s.tickSteps_keepsCauses.trans (phase _ _)
  · exact (s.tickSteps_keepsCauses.trans (speed _)).trans (phase _ _)

end Sys2Proof.Machine
end

section
/-! PROOFS. Every command keeps the bank link's bounds (R24, R31 to R34), with the bond of station state and stop causes. -/

namespace Sys2Proof.Machine

/-! ### The bank link's bounds -/

/-- The bank link's bounds, under a station count and for a configured station or not (R24, R30, R33, R34). -/
structure BankLink.Sound (b : BankLink) (count : Nat) (configured : Prop) : Prop where
  unsent : b.unsent ≤ 3
  duplicateHold : b.duplicateHold ≤ 10
  solo : b.solo = true ↔ b.unsent = 3
  peers : ∀ i, (b.peers.get i).presence ≠ .absent → i ≠ b.ownNumber ∧ i.val < count ∧ configured
  ownNumber : configured → b.ownNumber.val < count

theorem State.bankInv_iff (s : State) :
    s.BankInv ↔ s.TimerInv ∧ s.bank.Sound s.sup.store.bank.stationCount (s.sup.station ≠ .unconfigured) :=
  ⟨fun ⟨t, a, b, c, d, e⟩ => ⟨t, a, b, c, d, e⟩, fun ⟨t, a, b, c, d, e⟩ => ⟨t, a, b, c, d, e⟩⟩

/-- A change of the bank link that keeps its bounds, whatever the configuration. -/
abbrev BankLink.KeepsSound (b c : BankLink) : Prop := ∀ count configured, b.Sound count configured → c.Sound count configured

/-- A state that runs on keeps them with its bank link. -/
theorem State.RunsOn.bankInv {s t : State} (r : s.RunsOn t) (h : s.bank.KeepsSound t.bank) : s.BankInv → t.BankInv := by
  simp only [State.bankInv_iff, r.store, ne_eq, r.unconfigured]
  exact fun ⟨timer, sound⟩ => ⟨r.keepsBounds.timer timer, h _ _ sound⟩

/-- The own ANNOUNCE counted as sent ends SOLO with the unsent rounds (R34). -/
theorem State.ownSent_keepsSound (s : State) : s.bank.KeepsSound s.ownSent.bank := fun _ _ h =>
  { h with unsent := Nat.zero_le 3, solo := show false = true ↔ 0 = 3 by decide }

theorem State.slotWork_keepsSound (s : State) : s.bank.KeepsSound s.slotWork.bank := fun count configured h => by
  have filled : (s.setBank { s.bank with
      record := ⟨.pending, s.timer.round, s.ownFigures, s.bank.signature⟩ }).bank.Sound count configured := { h with }
  unfold State.slotWork
  dsimp only
  split
  · exact State.ownSent_keepsSound _ _ _ filled
  · exact filled

/-- SOLO is set with the third unsent round (R33). -/
theorem State.closeRound_keepsSound (s : State) : s.bank.KeepsSound s.closeRound.bank := fun count configured h => by
  have atMost := h.unsent
  unfold State.closeRound
  dsimp only
  split
  · exact h
  · rw [State.raiseIf_bank]
    refine { h with unsent := ?_, solo := ?_ }
    · dsimp only [State.setBank_bank]
      split <;> omega
    · have solo := h.solo
      by_cases low : s.bank.unsent < 3
      · have none : s.bank.solo = false := Bool.eq_false_iff.2 fun k => by have := solo.1 k; omega
        simp [low, none]
      · have three : s.bank.unsent = 3 := by omega
        simp [three]

theorem State.shareWork_keepsSound (s : State) : s.bank.KeepsSound s.shareWork.bank := by
  have bank : s.shareWork.bank = s.closeRound.bank := by
    simp [State.shareWork, State.shareUnitWork]
  rw [bank]
  exact s.closeRound_keepsSound

/-- Ageing makes no entry present (R29). -/
theorem PeerEntry.aged_absent (e : PeerEntry) : e.aged.presence = .absent ↔ e.presence = .absent := by
  rw [e.aged_eq]
  dsimp only
  split
  · rename_i h
    simp [h.1]
  · rfl

theorem State.bankWindowStart_keepsSound (s : State) : s.bank.KeepsSound s.bankWindowStart.bank := fun count configured h => by
  rw [s.bankWindowStart_bank]
  refine { h with duplicateHold := ?_, peers := fun i hi => h.peers i ?_ }
  · have := h.duplicateHold
    show s.bank.duplicateHold - 1 ≤ 10
    omega
  · rwa [PerEight.get_ofFn, ne_eq, PeerEntry.aged_absent] at hi

/-! ### What is kept together -/

/-- From `s` to `t` the bank link's bounds are kept, and the bond of station state and stop causes with what the loader's state
says of them, each from itself alone. -/
structure State.KeepsBonds (s t : State) : Prop where
  bank : s.BankInv → t.BankInv
  causes : s.KeepsCauses t

theorem State.KeepsBonds.rfl {s : State} : s.KeepsBonds s := ⟨id, .rfl⟩

theorem State.KeepsBonds.trans {s t u : State} (h : s.KeepsBonds t) (k : t.KeepsBonds u) : s.KeepsBonds u :=
  ⟨k.bank ∘ h.bank, h.causes.trans k.causes⟩

/-- The bank link stays while the state runs on. -/
theorem State.KeepsCauses.keepsBonds {s t : State} (h : s.KeepsCauses t) (r : s.RunsOn t) (hb : t.bank = s.bank) :
    s.KeepsBonds t := ⟨r.bankInv (hb ▸ fun _ _ => id), h⟩

/-- Only the bank link and blocks without a part in the bonds change. -/
theorem State.RunsOn.keepsBonds {s t : State} (r : s.RunsOn t) (hs : t.sup.station = s.sup.station) (hl : t.loader = s.loader)
    (h : s.bank.KeepsSound t.bank) : s.KeepsBonds t := ⟨r.bankInv h, .of_eq hs hl⟩

/-- What the bonds read stays. -/
theorem State.KeepsBonds.of_eq {s t : State} (timer : t.timer = s.timer) (bank : t.bank = s.bank) (sup : t.sup = s.sup)
    (loader : t.loader = s.loader) : s.KeepsBonds t where
  bank := by
    unfold State.BankInv State.TimerInv State.store
    rw [timer, bank, sup]
    exact id
  causes := .of_eq (by rw [sup]) loader

/-- A timer that runs on under the same station. -/
theorem State.setTimer_keepsBonds {s : State} {v : RoundTimer} (ht : v.timer = .stopped ↔ s.timer.timer = .stopped) :
    s.KeepsBonds (s.setTimer v) where
  bank := fun ⟨timer, sound⟩ => ⟨Iff.trans timer ht.symm, sound⟩
  causes := .of_eq rfl rfl

/-! ### Boundaries -/

theorem State.sequenceWork_keepsBonds (s : State) : s.KeepsBonds s.sequenceWork :=
  s.sequenceWork_keepsCauses.keepsBonds s.sequenceWork_runsOn s.sequenceWork_same.bank

theorem State.shareWork_keepsBonds (s : State) : s.KeepsBonds s.shareWork :=
  s.shareWork_runsOn.keepsBonds (by simp) (by rw [s.shareWork_eq]) s.shareWork_keepsSound

theorem State.controlWork_keepsBonds (s : State) : s.KeepsBonds s.controlWork := .of_eq rfl rfl rfl rfl

theorem State.ownSent_keepsBonds (s : State) : s.KeepsBonds s.ownSent :=
  s.ownSent_runsOn.keepsBonds rfl rfl s.ownSent_keepsSound

theorem State.slotWork_keepsBonds (s : State) : s.KeepsBonds s.slotWork := by
  refine s.slotWork_runsOn.keepsBonds ?_ ?_ s.slotWork_keepsSound
  all_goals
    unfold State.slotWork
    dsimp only
    split <;> rfl

theorem State.raisePosition_keepsBonds (s : State) : s.KeepsBonds s.raisePosition := by
  unfold State.raisePosition
  dsimp only
  split
  · exact s.slotWork_keepsBonds
  split
  · exact s.sequenceWork_keepsBonds
  split
  · exact s.shareWork_keepsBonds
  split
  · exact s.controlWork_keepsBonds
  · exact .rfl

theorem State.doIf_keepsBonds {s : State} {f : State → State} (c : Bool) (h : s.KeepsBonds (f s)) :
    s.KeepsBonds (s.doIf c f) := by
  cases c
  · exact .rfl
  · exact h

theorem State.cutOffPositions_keepsBonds (s : State) (length : Nat) : s.KeepsBonds (s.cutOffPositions length) :=
  ((State.doIf_keepsBonds _ s.sequenceWork_keepsBonds).trans (State.doIf_keepsBonds _ (State.shareWork_keepsBonds _))).trans
    (State.doIf_keepsBonds _ (State.controlWork_keepsBonds _))

theorem State.windowBlocks_keepsBonds (s : State) : s.KeepsBonds s.windowBlocks where
  bank := s.windowBlocks_windowWork.runsOn.bankInv (by
    rw [s.windowBlocks_windowWork.bank]
    exact s.bankWindowStart_keepsSound)
  causes := s.windowBlocks_keepsCauses

theorem State.countJoining_keepsBonds (s : State) : s.KeepsBonds s.countJoining := by
  rw [s.countJoining_eq]
  exact ⟨id, .of_eq rfl rfl⟩

theorem State.windowStartWork_keepsBonds (s : State) (length : Nat) : s.KeepsBonds (s.windowStartWork length) :=
  ((State.setTimer_keepsBonds (by rfl)).trans (State.countJoining_keepsBonds _)).trans (State.windowBlocks_keepsBonds _)

theorem State.firstWindowStartWork_keepsBonds {s : State} (round : Nat) (h : s.timer.timer ≠ .stopped) :
    s.KeepsBonds (s.firstWindowStartWork round) := by
  have ht : (s.timer.firstWindowStart round).timer = .stopped ↔ s.timer.timer = .stopped := by
    simp [RoundTimer.firstWindowStart, h]
  exact (State.setTimer_keepsBonds ht).trans (State.windowBlocks_keepsBonds _)

theorem State.countUp_keepsBonds (s : State) : s.KeepsBonds s.countUp := State.setTimer_keepsBonds Iff.rfl

theorem State.endListening_keepsBonds (s : State) : s.KeepsBonds s.endListening := by
  unfold State.endListening
  split
  · exact State.setTimer_keepsBonds Iff.rfl
  · exact .rfl

theorem State.listeningBoundary_keepsBonds {s : State} (h : s.timer.timer ≠ .stopped) : s.KeepsBonds s.listeningBoundary := by
  have k := s.countUp_keepsBonds.trans s.countUp.endListening_keepsBonds
  have running : s.countUp.endListening.timer.timer ≠ .stopped := fun e =>
    h ((s.countUp_runsOn.trans s.countUp.endListening_runsOn).stopped.1 e)
  unfold State.listeningBoundary
  dsimp only
  split
  · split
    · exact k.trans (State.firstWindowStartWork_keepsBonds _ running)
    · exact k
  · exact k

theorem State.phasedBoundary_keepsBonds (s : State) : s.KeepsBonds s.phasedBoundary := by
  unfold State.phasedBoundary
  dsimp only
  split
  · exact (s.countUp_keepsBonds.trans (State.cutOffPositions_keepsBonds _ _)).trans (State.windowStartWork_keepsBonds _ _)
  · exact s.countUp_keepsBonds.trans (State.raisePosition_keepsBonds _)

theorem State.boundaryWork_keepsBonds (s : State) : s.KeepsBonds s.boundaryWork := by
  unfold State.boundaryWork
  split
  · exact .rfl
  · rename_i h
    exact State.listeningBoundary_keepsBonds (by simp [h])
  · exact s.phasedBoundary_keepsBonds

theorem State.mapZones_keepsBonds (s : State) (f : ZoneId → ZoneState → ZoneState) : s.KeepsBonds (s.mapZones f) :=
  .of_eq rfl rfl rfl rfl

theorem State.boundary_keepsBonds (s : State) : s.KeepsBonds s.boundary := by
  unfold State.boundary
  dsimp only
  split
  · exact s.boundaryWork_keepsBonds.trans (State.mapZones_keepsBonds _ _)
  · exact s.boundaryWork_keepsBonds

theorem State.boundaries_keepsBonds : ∀ (k : Nat) (s : State), s.KeepsBonds (State.boundaries k s)
  | 0, _ => .rfl
  | k + 1, s => s.boundary_keepsBonds.trans (State.boundaries_keepsBonds k _)

theorem State.zeroCross_keepsBonds (s : State) (e : Nat) : s.KeepsBonds (s.zeroCross e) := by
  have mains : s.KeepsBonds (s.setTimer { s.timer with mains := .present }) := State.setTimer_keepsBonds Iff.rfl
  unfold State.zeroCross
  split
  · exact .rfl
  · split
    · dsimp only
      split
      · exact mains
      · exact mains.trans (State.boundary_keepsBonds _)
    · split
      · exact s.boundary_keepsBonds
      · split
        · exact .rfl
        · exact State.boundaries_keepsBonds _ s

theorem State.loseMains_keepsBonds (s : State) : s.KeepsBonds s.loseMains := by
  have entered : s.KeepsBonds ((s.setTimer { s.timer with mains := .lost }).raise reasonMainsLost) :=
    State.KeepsBonds.trans (State.setTimer_keepsBonds (v := { s.timer with mains := .lost }) Iff.rfl) (.of_eq rfl rfl rfl rfl)
  unfold State.loseMains
  split
  · exact (((entered.trans (State.boundaryWork_keepsBonds _)).trans (State.boundaryWork_keepsBonds _)).trans
      (State.boundaryWork_keepsBonds _)).trans (State.mapZones_keepsBonds _ _)
  · exact .rfl

theorem State.substitute_keepsBonds (s : State) : s.KeepsBonds s.substitute := by
  unfold State.substitute
  split
  · exact s.boundary_keepsBonds
  · exact .rfl

/-- A position's row is a boundary, or nothing. -/
theorem State.boundary_if_keepsBonds (s : State) (c : Bool) : s.KeepsBonds (if c then s.boundary else s) := by
  cases c
  · exact .rfl
  · exact s.boundary_keepsBonds

/-! ### The bank line -/

/-- An entry is replaced by one that is absent if the old one was, or whose station the configuration counts. -/
theorem BankLink.Sound.setPeer {b : BankLink} {count : Nat} {configured : Prop} (h : b.Sound count configured)
    {i : StationNo} {e : PeerEntry} (he : e.presence ≠ .absent → i ≠ b.ownNumber ∧ i.val < count ∧ configured) :
    ({ b with peers := b.peers.set i e } : BankLink).Sound count configured :=
  { h with
    peers := fun j hj => by
      rw [PerEight.get_set] at hj
      split at hj
      · rename_i hji
        subst hji
        exact he hj
      · exact h.peers j hj }

theorem State.judgePhase_keepsBonds (s : State) (i : StationNo) (a : Announced) (equal : Bool) :
    s.KeepsBonds (s.judgePhase i a equal) := by
  unfold State.judgePhase
  split
  · exact State.RunsOn.keepsBonds ⟨.rfl, rfl, Iff.rfl, Iff.rfl, rfl, rfl⟩ rfl rfl fun _ _ h => h.setPeer (h.peers i)
  · exact .rfl

theorem State.recordListening_keepsBonds (s : State) (i : StationNo) (a : Announced) (equal : Bool) :
    s.KeepsBonds (s.recordListening i a equal) := by
  unfold State.recordListening
  split
  · exact State.setTimer_keepsBonds Iff.rfl
  · exact .rfl

theorem State.raiseIf_keepsBonds (s : State) (c : Bool) (r : BitVec 16) : s.KeepsBonds (s.raiseIf c r) :=
  .of_eq (by simp) (by simp) (by simp) (by simp)

/-- A peer that the configuration counts may have an entry in a timer that runs (R4, R24). -/
theorem State.setPeer_keepsBonds {s : State} {i : StationNo} (e : PeerEntry) (ht : s.timer.timer ≠ .stopped)
    (ho : i ≠ s.bank.ownNumber) (hc : i.val < s.store.bank.stationCount) :
    s.KeepsBonds (s.setBank { s.bank with peers := s.bank.peers.set i e }) where
  bank := by
    simp only [State.bankInv_iff]
    exact fun ⟨timer, sound⟩ => ⟨timer, sound.setPeer fun _ => ⟨ho, hc, mt timer.1 ht⟩⟩
  causes := .of_eq rfl rfl

theorem State.acceptAnnounce_keepsBonds {s : State} {i : StationNo} (a : Announced) (ht : s.timer.timer ≠ .stopped)
    (ho : i ≠ s.bank.ownNumber) (hc : i.val < s.store.bank.stationCount) : s.KeepsBonds (s.acceptAnnounce i a) := by
  unfold State.acceptAnnounce
  dsimp only
  have entered : ∀ (e : PeerEntry) (c d : Bool), s.KeepsBonds (((s.setBank
      { s.bank with peers := s.bank.peers.set i e }).raiseIf c reasonPeerChange).raiseIf d reasonConfigMismatch) :=
    fun e c d => ((State.setPeer_keepsBonds e ht ho hc).trans (State.raiseIf_keepsBonds _ _ _)).trans
      (State.raiseIf_keepsBonds _ _ _)
  split
  · exact (entered _ _ _).trans (State.judgePhase_keepsBonds _ _ _ _)
  · exact (entered _ _ _).trans (State.recordListening_keepsBonds _ _ _ _)

/-- A LEAVE only makes an entry absent (R28). -/
theorem State.acceptLeave_keepsBonds (s : State) (i : StationNo) (signature : Nat) :
    s.KeepsBonds (s.acceptLeave i signature) := by
  unfold State.acceptLeave
  split
  · refine State.KeepsBonds.trans ?_ (State.raiseIf_keepsBonds _ _ _)
    exact (s.setBank_runsOn _).keepsBonds rfl rfl fun _ _ h => h.setPeer fun absent => absurd rfl absent
  · exact .of_eq rfl rfl rfl rfl

/-- A frame with the own number sets the duplicate hold to 10 (R31). -/
theorem State.duplicateFrame_keepsBonds (s : State) : s.KeepsBonds s.duplicateFrame :=
  s.duplicateFrame_runsOn.keepsBonds rfl rfl fun _ _ h => { h with duplicateHold := Nat.le_refl 10 }

theorem State.announceFrom_keepsBonds {s : State} {i : StationNo} (data : List Byte) (ht : s.timer.timer ≠ .stopped)
    (ho : i ≠ s.bank.ownNumber) : s.KeepsBonds (s.announceFrom i data) := by
  unfold State.announceFrom
  split
  · exact .rfl
  · split
    · exact .of_eq rfl rfl rfl rfl
    · rename_i counted
      split
      · exact State.acceptAnnounce_keepsBonds _ ht ho (Nat.lt_of_not_le counted)
      · exact .rfl

theorem State.leaveFrom_keepsBonds (s : State) (i : StationNo) (data : List Byte) : s.KeepsBonds (s.leaveFrom i data) := by
  unfold State.leaveFrom
  split
  · split
    · exact .of_eq rfl rfl rfl rfl
    · exact s.acceptLeave_keepsBonds _ _
  · exact .rfl

theorem State.frameArrives_keepsBonds (s : State) (f : CanFrame) : s.KeepsBonds (s.frameArrives f) := by
  unfold State.frameArrives
  split
  · exact .rfl
  · rename_i running
    split
    · exact .rfl
    · split
      · exact s.duplicateFrame_keepsBonds
      · rename_i other
        exact State.announceFrom_keepsBonds _ running other
    · split
      · exact s.duplicateFrame_keepsBonds
      · exact s.leaveFrom_keepsBonds _ _

theorem execAnnounceSent_keepsBonds {s t : State} (h : execAnnounceSent s = .next t) : s.KeepsBonds t := by
  cases h
  split
  · exact s.ownSent_keepsBonds
  · exact .rfl

/-! ### Scanner, loader and HALT line -/

theorem State.report_keepsBonds (s : State) : s.KeepsBonds s.report :=
  s.report_keepsCauses.keepsBonds s.report_runsOn s.report_bank

theorem State.controlConverted_keepsBonds (s : State) (z : ZoneId) (r : Reading) : s.KeepsBonds (s.controlConverted z r) := by
  unfold State.controlConverted
  split
  · exact State.KeepsBonds.trans (t := s.setZoneState z _) (.of_eq rfl rfl rfl rfl) (State.raiseIf_keepsBonds _ _ _)
  · exact .rfl

theorem State.limitConverted_keepsBonds (s : State) (z : ZoneId) (r : Reading) : s.KeepsBonds (s.limitConverted z r) := by
  unfold State.limitConverted
  split
  · unfold State.tripZone
    refine State.KeepsBonds.trans ?_ (State.report_keepsBonds _)
    exact .of_eq rfl rfl rfl rfl
  · exact .rfl

theorem State.setScanner_keepsBonds (s : State) (c : Scanner) : s.KeepsBonds (s.setScanner c) := .of_eq rfl rfl rfl rfl

theorem State.conversionComplete_keepsBonds (s : State) (m : Int) : s.KeepsBonds (s.conversionComplete m) := by
  unfold State.conversionComplete
  split
  · exact (s.setScanner_keepsBonds _).trans (State.controlConverted_keepsBonds _ _ _)
  · exact (s.setScanner_keepsBonds _).trans (State.limitConverted_keepsBonds _ _ _)
  · exact (s.setScanner_keepsBonds _).trans (State.raiseIf_keepsBonds _ _ _)
  · exact s.setScanner_keepsBonds _
  · exact s.setScanner_keepsBonds _
  · exact (s.setScanner_keepsBonds _).trans (State.raiseIf_keepsBonds _ _ _)

theorem State.motionTick_keepsBonds (s : State) : s.KeepsBonds s.motionTick := by
  have bank : s.motionTick.bank = s.bank := by
    have tick : s.tickSteps.bank = s.bank := by
      unfold State.tickSteps
      dsimp only
      split <;> simp [State.loaderStalled]
    unfold State.motionTick
    dsimp only
    split <;> exact tick
  exact s.motionTick_keepsCauses.keepsBonds s.motionTick_runsOn bank

theorem execSpeedUpdate_keepsBonds {s t : State} (h : execSpeedUpdate s = .next t) : s.KeepsBonds t := by
  cases h
  split
  · exact s.motionTick_keepsBonds
  · exact .rfl

theorem State.setLoader_keepsBonds {s : State} {l : Loader} (h : s.loader.Keeps l) : s.KeepsBonds (s.setLoader l) :=
  (State.setLoader_keepsCauses h).keepsBonds (s.setLoader_runsOn l) rfl

theorem execHomeSwitchActivation_keepsBonds {s t : State} (h : execHomeSwitchActivation s = .next t) : s.KeepsBonds t := by
  cases h
  split
  · exact .rfl
  · refine State.setLoader_keepsBonds (Loader.Keeps.trans ?_ (Loader.homeActivation_keeps _ _))
    exact .of_eq rfl rfl rfl

theorem State.halt_keepsBonds {s : State} (h : s.sup.station ≠ .unconfigured) : s.KeepsBonds s.halt := by
  refine s.halt_keepsCauses.keepsBonds (State.halt_runsOn h) ?_
  unfold State.halt
  dsimp only
  split <;> rfl

/-- The level of the HALT line is none of the bonds' business. -/
theorem State.setHaltLine_keepsBonds (s : State) (level : Bool) :
    s.KeepsBonds (s.setSup { s.sup with haltAsserted := level }) := ⟨id, .of_eq rfl rfl⟩

theorem execHaltAssert_keepsBonds {s t : State} (h : execHaltAssert s = .next t) : s.KeepsBonds t := by
  cases h
  split
  · exact .rfl
  · dsimp only
    split
    · exact s.setHaltLine_keepsBonds true
    · rename_i configured
      exact (s.setHaltLine_keepsBonds true).trans (State.halt_keepsBonds configured)

/-! ### The host's commands -/

theorem State.reply_keepsBonds (s : State) (r : ResultCode) (data : List Byte) : s.KeepsBonds (s.reply r data) :=
  .of_eq rfl rfl rfl rfl

theorem State.refuse_keepsBonds (s : State) (r : ResultCode) : s.KeepsBonds (s.refuse r) := s.reply_keepsBonds r []

/-- A command keeps the bonds when its act does. -/
theorem State.command_keepsBonds {s : State} {code : Byte} {act : State → State} (h : ∀ u : State, u.KeepsBonds (act u)) :
    s.KeepsBonds (s.command code act) := by
  unfold State.command
  split
  · exact State.KeepsBonds.trans (t := s.endTransaction) (.of_eq rfl rfl rfl rfl) (h _)
  · exact .rfl

/-- Outside a run the station count may change: there is no entry that it bounds (R30, R159). -/
theorem State.configure_keepsBonds (s : State) (r : ResultCode) (c : Store) (echo : List Byte) :
    s.KeepsBonds (s.configure r c echo) := by
  unfold State.configure
  split
  · rename_i unconfigured
    refine State.KeepsBonds.trans (t := s.setStore c) ⟨?_, .of_eq rfl rfl⟩ (State.reply_keepsBonds _ _ _)
    simp only [State.bankInv_iff]
    exact fun ⟨timer, sound⟩ => ⟨timer, { sound with
      peers := fun i hi => absurd unconfigured (sound.peers i hi).2.2
      ownNumber := fun configured => absurd unconfigured configured }⟩
  · exact s.refuse_keepsBonds _

/-- START's checks pass for an own number below the station count alone (R160). -/
theorem Store.startCheck_ownNumber {c : Store} {own : StationNo} (h : c.startCheck own = none) :
    own.val < c.bank.stationCount := by
  unfold Store.startCheck at h
  by_contra out
  rw [if_pos (Nat.le_of_not_lt out)] at h
  split at h <;> cases h

/-- START begins a run with no unsent round, of a station that the configuration counts (R34, R160, R161). -/
theorem State.begin_keepsBonds {s : State} (hs : s.sup.station = .unconfigured)
    (ho : s.bank.ownNumber.val < s.store.bank.stationCount) : s.KeepsBonds s.begin := by
  have started : ∀ u : State, u.sup.station = .joining → u.timer.timer = .listening →
      u.sup.store = s.sup.store → u.loader = s.loader → u.bank.ownNumber = s.bank.ownNumber →
      (∀ n c, s.bank.Sound n c → u.bank.unsent = 0 ∧ u.bank.solo = false ∧ u.bank.peers = s.bank.peers
        ∧ u.bank.duplicateHold = s.bank.duplicateHold) →
      s.KeepsBonds (if u.sup.haltAsserted then u.halt else u) := by
    intro u station timer store loader own bank
    have k : s.KeepsBonds u := by
      refine ⟨?_, ?_, ?_⟩
      · simp only [State.bankInv_iff]
        rintro ⟨-, sound⟩
        obtain ⟨unsent, solo, peers, hold⟩ := bank _ _ sound
        refine ⟨by simp [State.TimerInv, station, timer], ?_⟩
        exact ⟨by simp [unsent], hold ▸ sound.duplicateHold, by simp [solo, unsent],
          fun i hi => absurd hs (sound.peers i (peers ▸ hi)).2.2, fun _ => by rw [own, store]; exact ho⟩
      · rw [loader, station, hs]
        exact id
      · rw [loader]
        exact id
    split
    · exact k.trans (State.halt_keepsBonds (by simp [station]))
    · exact k
  exact started _ rfl rfl rfl rfl rfl fun _ _ _ => ⟨rfl, rfl, rfl, rfl⟩

theorem execStart_keepsBonds {s t : State} (h : execStart s = .next t) : s.KeepsBonds t := by
  cases h
  refine State.command_keepsBonds fun u => ?_
  split
  · rename_i unconfigured
    split
    · exact u.reply_keepsBonds _ _
    · rename_i passed
      exact (State.begin_keepsBonds unconfigured (Store.startCheck_ownNumber passed)).trans (State.reply_keepsBonds _ _ _)
  · exact u.refuse_keepsBonds _

/-- An UNCONFIGURED station with the bank link and the loader of a reset has every bond. -/
theorem State.keepsBonds_of_reset {s t : State} (station : t.sup.station = .unconfigured) (timer : t.timer = RoundTimer.reset)
    (causes : t.loader.causes = StopCauses.empty) (state : t.loader.state = .atRest) (unsent : t.bank.unsent = 0)
    (hold : t.bank.duplicateHold = 0) (solo : t.bank.solo = false) (peers : t.bank.peers = PerEight.all PeerEntry.reset) :
    s.KeepsBonds t where
  bank := fun _ => (State.bankInv_iff t).2 ⟨by rw [State.TimerInv, station, timer]; exact ⟨fun _ => rfl, fun _ => rfl⟩, {
    unsent := by simp [unsent]
    duplicateHold := by simp [hold]
    solo := by simp [solo, unsent]
    peers := fun i hi => absurd (by simp [peers, PeerEntry.reset]) hi
    ownNumber := fun configured => absurd station configured }⟩
  causes :=
    { fits := fun _ => by rw [station, causes]; rfl
      stop := fun _ => .of_rest (.inl state) (by rw [causes]; rfl) }

theorem State.restart_keepsBonds (s : State) : s.KeepsBonds s.restart :=
  State.keepsBonds_of_reset rfl rfl rfl rfl rfl rfl rfl rfl

theorem State.hardReset_keepsBonds (s : State) (straps : StationNo) : s.KeepsBonds (s.hardReset straps) :=
  State.keepsBonds_of_reset rfl rfl rfl rfl rfl rfl rfl rfl

/-- CLEAR_HALT moves a configured station (R164). -/
theorem execClearHalt_keepsBonds {s t : State} (h : execClearHalt s = .next t) : s.KeepsBonds t := by
  cases h
  refine State.command_keepsBonds fun u => ?_
  split
  · rename_i hu
    have held : u.RunsOn u.clearHaltToHeld :=
      .of_blocks .rfl rfl (iff_of_false (show StationState.held ≠ .unconfigured by decide) (by simp [hu.1])) rfl rfl
    exact (u.clearHaltToHeld_keepsCauses.keepsBonds held rfl).trans (State.reply_keepsBonds _ _ _)
  · exact u.refuse_keepsBonds _

theorem execResetTrip_keepsBonds {s t : State} (h : execResetTrip s = .next t) : s.KeepsBonds t := by
  cases h
  refine State.command_keepsBonds fun u => ?_
  dsimp only
  split
  · exact u.refuse_keepsBonds _
  · split
    · exact u.reply_keepsBonds _ _
    · split
      · exact .of_eq rfl rfl rfl rfl
      · exact u.refuse_keepsBonds _

theorem execUrgent_keepsBonds {s t : State} (h : execUrgent s = .next t) : s.KeepsBonds t := by
  cases h
  refine State.command_keepsBonds fun u => ?_
  dsimp only
  split
  · exact u.refuse_keepsBonds _
  · split
    · exact u.refuse_keepsBonds _
    · split
      · exact u.refuse_keepsBonds _
      · exact .of_eq rfl rfl rfl rfl

theorem execAppend_keepsBonds {s t : State} (h : execAppend s = .next t) : s.KeepsBonds t := by
  cases h
  refine State.command_keepsBonds fun u => ?_
  dsimp only
  split
  · exact u.refuse_keepsBonds _
  · split
    · exact u.refuse_keepsBonds _
    · exact .of_eq rfl rfl rfl rfl

theorem execAmend_keepsBonds {s t : State} (h : execAmend s = .next t) : s.KeepsBonds t := by
  cases h
  refine State.command_keepsBonds fun u => ?_
  dsimp only
  split
  · exact u.refuse_keepsBonds _
  · exact .of_eq rfl rfl rfl rfl

theorem execSetZone_keepsBonds {s t : State} (h : execSetZone s = .next t) : s.KeepsBonds t := by
  cases h
  refine State.command_keepsBonds fun u => ?_
  dsimp only
  split
  · exact u.refuse_keepsBonds _
  · exact u.configure_keepsBonds _ _ _

theorem execSetBand_keepsBonds {s t : State} (h : execSetBand s = .next t) : s.KeepsBonds t := by
  cases h
  refine State.command_keepsBonds fun u => ?_
  dsimp only
  split
  · exact u.refuse_keepsBonds _
  · exact u.configure_keepsBonds _ _ _

theorem execReadZone_keepsBonds {s t : State} (h : execReadZone s = .next t) : s.KeepsBonds t := by
  cases h
  refine State.command_keepsBonds fun u => ?_
  split
  · exact u.refuse_keepsBonds _
  · exact u.reply_keepsBonds _ _

theorem execReadPeer_keepsBonds {s t : State} (h : execReadPeer s = .next t) : s.KeepsBonds t := by
  cases h
  refine State.command_keepsBonds fun u => ?_
  split
  · exact u.refuse_keepsBonds _
  · exact u.reply_keepsBonds _ _

/-! ### Transactions -/

theorem State.beginTransaction_keepsBonds (s : State) : s.KeepsBonds s.beginTransaction := by
  unfold State.beginTransaction
  split
  · exact .of_eq rfl rfl rfl rfl
  · exact .rfl

theorem State.clockByte_keepsBonds (s : State) (b : Byte) : s.KeepsBonds (s.clockByte b) := by
  unfold State.clockByte
  split
  · exact .rfl
  · exact .of_eq rfl rfl rfl rfl
  · exact .of_eq rfl rfl rfl rfl

/-- A release of chip select that takes no command changes the host port at most. -/
theorem State.setHost_if_keepsBonds {s u : State} (c : Prop) [Decidable c] (h : ∃ v, u = s.setHost v) :
    s.KeepsBonds (if c then u else s) := by
  obtain ⟨v, rfl⟩ := h
  split
  · exact .of_eq rfl rfl rfl rfl
  · exact .rfl

/-! ### Every command -/

/-- Every command keeps the bank link's bounds and the bonds of the stop causes. -/
theorem exec_keepsBonds (c : Instr) {s t : State} (h : exec c s = .next t) : s.KeepsBonds t := by
  cases c with
  | hardReset straps => cases h; exact s.hardReset_keepsBonds straps
  | transactionBegin => cases h; exact s.beginTransaction_keepsBonds
  | frameError => cases h; exact State.setHost_if_keepsBonds _ ⟨_, rfl⟩
  | unknownCommand => cases h; exact State.setHost_if_keepsBonds _ ⟨_, rfl⟩
  | nop => cases h; exact State.command_keepsBonds fun u => u.reply_keepsBonds _ _
  | setBank => cases h; exact State.command_keepsBonds fun u => u.configure_keepsBonds _ _ _
  | setZone => exact execSetZone_keepsBonds h
  | setGas => cases h; exact State.command_keepsBonds fun u => u.configure_keepsBonds _ _ _
  | setLoader => cases h; exact State.command_keepsBonds fun u => u.configure_keepsBonds _ _ _
  | setBand => exact execSetBand_keepsBonds h
  | start => exact execStart_keepsBonds h
  | append => exact execAppend_keepsBonds h
  | amend => exact execAmend_keepsBonds h
  | urgent => exact execUrgent_keepsBonds h
  | readStatus => cases h; exact State.command_keepsBonds fun u => u.reply_keepsBonds _ _
  | readZone => exact execReadZone_keepsBonds h
  | readLoader => cases h; exact State.command_keepsBonds fun u => u.reply_keepsBonds _ _
  | readPeer => exact execReadPeer_keepsBonds h
  | readQueue => cases h; exact State.command_keepsBonds fun u => u.reply_keepsBonds _ _
  | readOutcome => cases h; exact State.command_keepsBonds fun u => u.reply_keepsBonds _ _
  | clearReasons => cases h; exact State.command_keepsBonds fun u => .of_eq rfl rfl rfl rfl
  | setMask => cases h; exact State.command_keepsBonds fun u => .of_eq rfl rfl rfl rfl
  | setLowMark => cases h; exact State.command_keepsBonds fun u => .of_eq rfl rfl rfl rfl
  | resetTrip => exact execResetTrip_keepsBonds h
  | clearHalt => exact execClearHalt_keepsBonds h
  | restart =>
    cases h
    exact State.command_keepsBonds fun u => u.restart_keepsBonds.trans (State.reply_keepsBonds _ _ _)
  | zeroCrossEdge e => cases h; exact s.zeroCross_keepsBonds e
  | mainsLost => cases h; exact s.loseMains_keepsBonds
  | substituteBoundary => cases h; exact s.substitute_keepsBonds
  | listeningEnd => cases h; exact s.boundary_if_keepsBonds _
  | firstWindowStart => cases h; exact s.boundary_if_keepsBonds _
  | windowStart => cases h; exact s.boundary_if_keepsBonds _
  | ownSlot => cases h; exact s.boundary_if_keepsBonds _
  | announceSent => exact execAnnounceSent_keepsBonds h
  | transmitAttemptFail => cases h; exact .rfl
  | leaveSent =>
    cases h
    exact (s.setBank_runsOn _).keepsBonds rfl rfl fun _ _ k => { k with }
  | sequencePosition => cases h; exact s.boundary_if_keepsBonds _
  | sharePosition => cases h; exact s.boundary_if_keepsBonds _
  | controlPosition => cases h; exact s.boundary_if_keepsBonds _
  | announceArrival frame => cases h; exact s.frameArrives_keepsBonds frame
  | leaveArrival frame => cases h; exact s.frameArrives_keepsBonds frame
  | burnoutTest loopOhms => cases h; exact s.setScanner_keepsBonds _
  | conversionComplete measured => cases h; exact s.conversionComplete_keepsBonds measured
  | motionTick => cases h; exact s.motionTick_keepsBonds
  | speedUpdate => exact execSpeedUpdate_keepsBonds h
  | homeSwitchActivation => exact execHomeSwitchActivation_keepsBonds h
  | haltAssert => exact execHaltAssert_keepsBonds h
  | haltRelease => cases h; exact s.setHaltLine_keepsBonds false
  | homeSwitchRelease => cases h; exact State.setLoader_keepsBonds (.of_eq rfl rfl rfl)
  | byteTime b => cases h; exact s.clockByte_keepsBonds b
  | chipSelectReleaseDiscarding => cases h; exact State.setHost_if_keepsBonds _ ⟨_, rfl⟩

/-- A step keeps them: it idles, or runs the front command on the state with the queue's rest. -/
theorem step_keepsBonds {s t : State} (h : step s = .next t) : s.KeepsBonds t := by
  unfold step at h
  split at h
  · cases h
    exact .rfl
  · rename_i c rest _
    exact State.KeepsBonds.trans (t := s.setPending rest) (.of_eq rfl rfl rfl rfl) (exec_keepsBonds c h)

/-- Settles O58: each invariant is kept by every command from itself alone, the timer's bond in them by `step_keepsBounds`. -/
theorem stepsKeepTheBankLinkAndTheStopCauses : Obligations.StepsKeepTheBankLinkAndTheStopCauses := by
  refine ⟨fun s t inv h => (step_keepsBonds h).bank inv, fun s t inv h => ?_,
    fun s t inv h => (step_keepsBonds h).causes.stop inv⟩
  obtain ⟨timer, fits⟩ := (State.causeInv_iff s).1 inv
  exact (State.causeInv_iff t).2 ⟨(step_keepsBounds h).timer timer, (step_keepsBonds h).causes.fits fits⟩

end Sys2Proof.Machine
end

section
/-! PROOFS. The statements about the bank line: the phase candidate of the stations heard, the own slot, the ends of
transmissions, and the frames that arrive. -/

namespace Sys2Proof.Machine

/-! ### The phase candidate (R11) -/

/-- The candidate that a heard station gives: itself, if it is a peer that disagreed. -/
def State.candidateFrom (s : State) (i : StationNo) : Option Candidate :=
  if i = s.bank.ownNumber then none
  else
    match s.timer.judged.get i with
    | some j => if j.disagrees then some ⟨i, j.count, j.round⟩ else none
    | none => none

/-- The search for the candidate passes a station that is not heard. -/
theorem State.candidateOf_not_heard {s : State} {i : StationNo} (h : ¬ s.Heard i) (is : List (Fin 8)) :
    candidateOf s.bank.ownNumber s.timer.ownHeard s.timer.judged (i :: is)
      = candidateOf s.bank.ownNumber s.timer.ownHeard s.timer.judged is := by
  unfold State.Heard at h
  by_cases own : i = s.bank.ownNumber
  · rw [if_pos own] at h
    simp [candidateOf, own, h]
  · rw [if_neg own] at h
    cases hj : s.timer.judged.get i with
    | none => simp [candidateOf, own, hj]
    | some j =>
      have silent : j.heard = false := Bool.eq_false_iff.2 fun k => h ⟨j, hj, k⟩
      simp [candidateOf, own, hj, silent]

/-- It ends at the first station that is heard. -/
theorem State.candidateOf_heard {s : State} {i : StationNo} (h : s.Heard i) (is : List (Fin 8)) :
    candidateOf s.bank.ownNumber s.timer.ownHeard s.timer.judged (i :: is) = s.candidateFrom i := by
  unfold State.Heard at h
  unfold State.candidateFrom
  by_cases own : i = s.bank.ownNumber
  · rw [if_pos own] at h
    simp [candidateOf, own, h]
  · rw [if_neg own] at h
    obtain ⟨j, hj, heard⟩ := h
    simp [candidateOf, own, hj, heard]

theorem State.candidateOf_silent {s : State} (h : ∀ i, ¬ s.Heard i) :
    ∀ is, candidateOf s.bank.ownNumber s.timer.ownHeard s.timer.judged is = none
  | [] => rfl
  | i :: is => (State.candidateOf_not_heard (h i) is).trans (State.candidateOf_silent h is)

/-- In a rising list the lowest-numbered heard station decides. -/
theorem State.candidateOf_lowest {s : State} {i : StationNo} (hi : s.Heard i) (lower : ∀ k, k < i → ¬ s.Heard k) :
    ∀ is : List (Fin 8), is.Pairwise (· < ·) → i ∈ is →
      candidateOf s.bank.ownNumber s.timer.ownHeard s.timer.judged is = s.candidateFrom i
  | [], _, hm => absurd hm List.not_mem_nil
  | k :: is, hp, hm => by
    obtain ⟨hk, hrest⟩ := List.pairwise_cons.1 hp
    by_cases e : i = k
    · subst e
      exact State.candidateOf_heard hi is
    · have later : i ∈ is := (List.mem_cons.1 hm).resolve_left e
      exact (State.candidateOf_not_heard (lower k (hk i later)) is).trans
        (State.candidateOf_lowest hi lower is hrest later)

/-- Re-evaluating makes the candidate the one that R11 gives. -/
theorem State.reevaluate_candidateRight (s : State) : s.reevaluate.CandidateRight := by
  refine ⟨fun silent => State.candidateOf_silent (s := s) silent _, fun i hi lower => ?_⟩
  have lowest : s.reevaluate.timer.candidate = s.candidateFrom i :=
    State.candidateOf_lowest (s := s) hi lower eightNumbers (by decide) (mem_eightNumbers i)
  rw [lowest]
  unfold State.candidateFrom
  refine ⟨fun own => if_pos own, fun peer j hj => ?_⟩
  have judged : s.timer.judged.get i = some j := hj
  have peer : i ≠ s.bank.ownNumber := peer
  rw [if_neg peer, judged]

/-! ### The own slot (O29) -/

/-- The own slot's work on the record, before it counts as sent (R18). -/
theorem State.slotWork_of_peers {s : State} (h : s.store.bank.stationCount ≠ 1) :
    s.slotWork = s.setBank { s.bank with record := ⟨.pending, s.timer.round, s.ownFigures, s.bank.signature⟩ } := if_neg h

/-- The own slot's row: its work, with the half-cycle that begins at it. -/
theorem exec_ownSlot {s : State} (h : s.NextReaches (4 + 10 * s.bank.ownNumber.val)) :
    exec .ownSlot s = .next { s.counted.slotWork with zones := s.zonesFired } := by
  rw [exec_row_of_reaches (by simp) h]
  obtain ⟨hp, hc, hlt⟩ := h
  have runs := s.counted.slotWork_runsOn
  obtain ⟨heard, candidate, timer⟩ := s.counted.slotWork_positionKeeps.timer
  have zones : s.counted.slotWork.zones = s.zones := by
    unfold State.slotWork
    dsimp only
    split <;> rfl
  exact congrArg _ (State.boundary_position hp (hc ▸ hlt) (s.countUp.raisePosition_cases.1 hc) (by rw [timer]; exact hp) zones
    (by rw [timer]; rfl) runs.store runs.unconfigured)

/-- The figures of R18, the dark states' power figures being 0. -/
theorem State.ownFigures_eq (s : State) :
    s.ownFigures = ⟨s.sup.station, s.store.bank.priority,
      if s.sup.station = .joining ∨ s.sup.station = .halted then 0 else s.zones.powerFirm,
      if s.sup.station = .joining ∨ s.sup.station = .halted then 0 else s.zones.powerExtra,
      s.gas.nitrogenFirm, s.gas.nitrogenExtra⟩ := rfl

/-- Station 0 heard is no candidate of its own (R11). -/
theorem State.ownSent_of_zero {s : State} (h : s.bank.ownNumber = 0) :
    s.ownSent = { s with
      bank := { s.bank with record := { s.bank.record with status := .sent }, unsent := 0, solo := false }
      timer := { s.timer with ownHeard := true, candidate := none } } := by
  have none : candidateOf s.bank.ownNumber true s.timer.judged eightNumbers = none := by
    rw [h]
    rfl
  show { s with
    bank := { s.bank with record := { s.bank.record with status := .sent }, unsent := 0, solo := false }
    timer := { s.timer with
      ownHeard := true, candidate := candidateOf s.bank.ownNumber true s.timer.judged eightNumbers } } = _
  rw [none]

/-- A station by itself, which is station 0, counts its record as sent at once (R19). -/
theorem State.slotWork_alone {s : State} (h : s.store.bank.stationCount = 1) (zero : s.bank.ownNumber = 0) :
    s.slotWork = { s with
      bank := { s.bank with
        record := ⟨.sent, s.timer.round, s.ownFigures, s.bank.signature⟩, unsent := 0, solo := false }
      timer := { s.timer with ownHeard := true, candidate := none } } := by
  unfold State.slotWork
  exact (if_pos h).trans (State.ownSent_of_zero zero)

/-- Settles O29: the slot's work by the station count, and the frame byte by byte. -/
theorem ownSlotFillsTheRecord : Obligations.OwnSlotFillsTheRecord := by
  refine ⟨fun s h peers => ?_, fun s h alone zero => ?_⟩
  · refine ⟨?_, _, rfl, rfl, rfl, fun k => rfl⟩
    rw [exec_ownSlot h, State.slotWork_of_peers (s := s.counted) peers]
    rfl
  · refine ⟨s.ownFigures, ?_, rfl, rfl, rfl, rfl, fun dark => ?_, fun h1 h2 => ?_⟩
    · rw [exec_ownSlot h, State.slotWork_alone (s := s.counted) alone zero]
      rfl
    · rw [State.ownFigures_eq]
      exact ⟨if_pos dark, if_pos dark⟩
    · rw [State.ownFigures_eq]
      exact ⟨if_neg (not_or.2 ⟨h1, h2⟩), if_neg (not_or.2 ⟨h1, h2⟩)⟩

/-! ### The ends of transmissions (O30) -/

theorem State.ownSent_candidateRight (s : State) : s.ownSent.CandidateRight := State.reevaluate_candidateRight _

/-- Settles O30: a PENDING record's success is the round's own ANNOUNCE sent, and any other changes nothing. -/
theorem transmissionsEndAsTheRulesSay : Obligations.TransmissionsEndAsTheRulesSay := by
  refine ⟨fun s pending => ⟨s.ownSent.timer.candidate, ?_⟩, fun s other => ?_, fun _ => rfl, fun _ => rfl⟩
  · exact ⟨congrArg _ (if_pos pending), s.ownSent_candidateRight⟩
  · exact congrArg _ (if_neg other)

/-! ### Frames that arrive -/

/-- The two rows of an arrival sort their frame alike (log entry 17). -/
theorem exec_arrival {c : Instr} {f : CanFrame} (h : c = .announceArrival f ∨ c = .leaveArrival f) (s : State) :
    exec c s = .next (s.frameArrives f) := by
  rcases h with rfl | rfl <;> rfl

/-- The identifiers of R24. -/
theorem frameKind_announce {f : CanFrame} {i : StationNo} (hr : f.remote = false) (h : f.identifier.toNat = 0x640 + i.val) :
    frameKind f = .announce ∧ frameSender f = i := by
  have := i.isLt
  refine ⟨?_, Fin.ext ?_⟩
  · unfold frameKind
    rw [if_neg (by simp [hr]), if_pos (by omega)]
  · show f.identifier.toNat % 8 = i.val
    omega

theorem frameKind_leave {f : CanFrame} {i : StationNo} (hr : f.remote = false) (h : f.identifier.toNat = 0x650 + i.val) :
    frameKind f = .leave ∧ frameSender f = i := by
  have := i.isLt
  refine ⟨?_, Fin.ext ?_⟩
  · unfold frameKind
    rw [if_neg (by simp [hr]), if_neg (by omega), if_pos (by omega)]
  · show f.identifier.toNat % 8 = i.val
    omega

/-- Remote frames and other identifiers are of neither kind. -/
theorem frameKind_other {f : CanFrame} (h : f.remote = true ∨ f.identifier.toNat < 0x640 ∨ 0x657 < f.identifier.toNat
    ∨ (0x647 < f.identifier.toNat ∧ f.identifier.toNat < 0x650)) : frameKind f = .other := by
  unfold frameKind
  split
  · rfl
  · rename_i data
    have out := h.resolve_left data
    rw [if_neg (by omega), if_neg (by omega)]

theorem State.frameArrives_other {s : State} {f : CanFrame} (h : frameKind f = .other) : s.frameArrives f = s := by
  unfold State.frameArrives
  rw [h]
  exact ite_self s

section
variable {s : State} {f : CanFrame} {i : StationNo}

theorem State.frameArrives_own (ht : s.timer.timer ≠ .stopped) (hr : f.remote = false)
    (h : f.identifier.toNat = 0x640 + i.val ∨ f.identifier.toNat = 0x650 + i.val) (own : i = s.bank.ownNumber) :
    s.frameArrives f = s.duplicateFrame := by
  unfold State.frameArrives
  rw [if_neg ht]
  rcases h with h | h
  · obtain ⟨kind, sender⟩ := frameKind_announce hr h
    simp only [kind, sender, if_pos own]
  · obtain ⟨kind, sender⟩ := frameKind_leave hr h
    simp only [kind, sender, if_pos own]

theorem State.frameArrives_announce (ht : s.timer.timer ≠ .stopped) (hr : f.remote = false)
    (h : f.identifier.toNat = 0x640 + i.val) (peer : i ≠ s.bank.ownNumber) :
    s.frameArrives f = s.announceFrom i f.data := by
  obtain ⟨kind, sender⟩ := frameKind_announce hr h
  unfold State.frameArrives
  simp only [if_neg ht, kind, sender, if_neg peer]

theorem State.frameArrives_leave (ht : s.timer.timer ≠ .stopped) (hr : f.remote = false)
    (h : f.identifier.toNat = 0x650 + i.val) (peer : i ≠ s.bank.ownNumber) :
    s.frameArrives f = s.leaveFrom i f.data := by
  obtain ⟨kind, sender⟩ := frameKind_leave hr h
  unfold State.frameArrives
  simp only [if_neg ht, kind, sender, if_neg peer]

end

section
variable {s : State} {i : StationNo} {data : List Byte}

/-- A wrong length is ignored before anything else of the sender is judged (R24). -/
theorem State.announceFrom_length (h : data.length ≠ 8) : s.announceFrom i data = s := if_pos h

theorem State.announceFrom_uncounted (h : data.length = 8) (hc : s.store.bank.stationCount ≤ i.val) :
    s.announceFrom i data = s.raise reasonConfigMismatch := by
  unfold State.announceFrom
  rw [if_neg (not_not.2 h), if_pos hc]

theorem State.leaveFrom_length (h : data.length ≠ 1) : s.leaveFrom i data = s := by
  unfold State.leaveFrom
  split
  · exact absurd rfl h
  · rfl

theorem State.leaveFrom_uncounted (h : data.length = 1) (hc : s.store.bank.stationCount ≤ i.val) :
    s.leaveFrom i data = s.raise reasonConfigMismatch := by
  obtain ⟨sig, rfl⟩ := List.length_eq_one_iff.1 h
  exact if_pos hc

/-- The state codes that name no station state (R178). -/
theorem announcedState_none {n : Nat} (h : n = 0 ∨ 6 ≤ n) : announcedState? n = none := by
  unfold announcedState?
  split
  case h_6 => rfl
  all_goals omega

/-- A frame of 8 bytes with an unknown state is no ANNOUNCE. -/
theorem readAnnounce_none (h : (data.getD 1 0).toNat / 16 = 0 ∨ 6 ≤ (data.getD 1 0).toNat / 16) :
    readAnnounce? data = none := by
  unfold readAnnounce?
  split
  · exact congrArg (Option.map _) (announcedState_none h)
  · rfl

theorem State.announceFrom_unknown (hc : i.val < s.store.bank.stationCount) (h : readAnnounce? data = none) :
    s.announceFrom i data = s := by
  unfold State.announceFrom
  rw [if_neg (Nat.not_le.2 hc), h]
  exact ite_self s

/-- An accepted LEAVE with the own signature makes its entry absent (R28). -/
theorem State.acceptLeave_equal {signature : Nat} (h : signature = s.bank.signature) :
    s.acceptLeave i signature = { s with
      bank := { s.bank with peers := s.bank.peers.set i { s.bank.peers.get i with presence := .absent } }
      host := { s.host with reasons := (if (s.bank.peers.get i).presence = .absent then s.host.reasons
        else s.host.reasons ||| 0x2000) } } := by
  unfold State.acceptLeave
  rw [if_pos h]
  dsimp only
  rw [State.raiseIf_eq]
  by_cases absent : (s.bank.peers.get i).presence = .absent <;> simp [absent, State.setBank, reasonPeerChange]

end

/-- Settles O32: the checks of R24 in their order. -/
theorem leavesAndRejectedFrames : Obligations.LeavesAndRejectedFrames := by
  refine ⟨fun s f i c hc => ?_, fun s i sig f ht hr hid peer counted data => ?_⟩
  · intro id duplicate mismatch
    rw [exec_arrival hc]
    refine ⟨fun stopped => congrArg _ (if_pos stopped),
      fun hr => congrArg _ (State.frameArrives_other (frameKind_other (.inl hr))),
      fun hid => congrArg _ (State.frameArrives_other (frameKind_other (.inr hid))),
      fun ht hr hid => ⟨fun own => ?_, fun peer length => ?_, fun peer length uncounted => ?_,
        fun peer hid length counted unknown => ?_⟩⟩
    · exact congrArg _ (State.frameArrives_own ht hr hid own)
    · have := i.isLt
      rcases hid with hid | hid
      · rw [if_pos (show id < 0x650 by omega)] at length
        rw [State.frameArrives_announce ht hr hid peer, State.announceFrom_length length]
      · rw [if_neg (show ¬ id < 0x650 by omega)] at length
        rw [State.frameArrives_leave ht hr hid peer, State.leaveFrom_length length]
    · have := i.isLt
      rcases hid with hid | hid
      · rw [if_pos (show id < 0x650 by omega)] at length
        rw [State.frameArrives_announce ht hr hid peer, State.announceFrom_uncounted length uncounted]
        rfl
      · rw [if_neg (show ¬ id < 0x650 by omega)] at length
        rw [State.frameArrives_leave ht hr hid peer, State.leaveFrom_uncounted length uncounted]
        rfl
    · rw [State.frameArrives_announce ht hr hid peer, State.announceFrom_unknown counted (readAnnounce_none unknown)]
  · intro old
    have accepted : exec (.leaveArrival f) s = .next (s.acceptLeave i sig.toNat) := by
      rw [exec_arrival (.inr rfl), State.frameArrives_leave ht hr hid peer, data]
      exact congrArg _ (if_neg (Nat.not_le.2 counted))
    rw [accepted]
    exact ⟨fun equal => congrArg _ (State.acceptLeave_equal equal), fun other => congrArg _ (if_neg other)⟩

end Sys2Proof.Machine
end

section
/-! PROOFS. The statement about accepted announcements: the table entry, the reasons, the phase judgement and the listening
record. -/

namespace Sys2Proof.Machine

/-- Writing an item twice is to write it once. -/
theorem PerEight.set_set {α : Type} (p : PerEight α) (i : Fin 8) (v w : α) : (p.set i v).set i w = p.set i w := by
  refine PerEight.ext_get fun j => ?_
  by_cases h : j = i <;> simp [h]

/-! ### The parts of an accepted ANNOUNCE -/

/-- The state codes of an ANNOUNCE (R178). -/
theorem announcedState_some {code : Nat} {q : StationState}
    (h : (code, q) ∈ [(1, StationState.joining), (2, .idle), (3, .running), (4, .held), (5, .halted)]) :
    announcedState? code = some q := by
  simp only [List.mem_cons, Prod.mk.injEq, List.not_mem_nil, or_false] at h
  rcases h with ⟨rfl, rfl⟩ | ⟨rfl, rfl⟩ | ⟨rfl, rfl⟩ | ⟨rfl, rfl⟩ | ⟨rfl, rfl⟩ <;> rfl

/-- The table entry that an accepted ANNOUNCE leaves before its phase is judged (R25, R26). -/
def State.announcedEntry (s : State) (i : StationNo) (a : Announced) : PeerEntry :=
  { presence := if a.signature = s.bank.signature then .fresh else .mismatch
    heard := decide (s.timer.timer = .phased ∧ a.round = s.timer.round)
    lastRound := a.round
    age := 0
    figures := a.figures
    agrees := (s.bank.peers.get i).agrees }

/-- The reasons that an accepted ANNOUNCE leaves (R26, R27). -/
def State.announcedReasons (s : State) (i : StationNo) (a : Announced) : BitVec 16 :=
  s.host.reasons
    ||| (if (s.bank.peers.get i).presence = .absent ∨ (s.bank.peers.get i).presence = .stale then 0x2000 else 0)
    ||| (if ¬ a.signature = s.bank.signature ∧ (s.bank.peers.get i).presence ≠ .mismatch then 0x4000 else 0)

/-- The state with the entry and the reasons of an accepted ANNOUNCE, before the round timer takes note of it. -/
def State.announced (s : State) (i : StationNo) (a : Announced) : State :=
  { s with
    bank := { s.bank with peers := s.bank.peers.set i (s.announcedEntry i a) }
    host := { s.host with reasons := s.announcedReasons i a } }

theorem State.acceptAnnounce_eq (s : State) (i : StationNo) (a : Announced) :
    s.acceptAnnounce i a
      = if s.timer.timer = .phased then (s.announced i a).judgePhase i a (decide (a.signature = s.bank.signature))
        else (s.announced i a).recordListening i a (decide (a.signature = s.bank.signature)) := by
  have presence : presenceAfter (decide (a.signature = s.bank.signature))
      = if a.signature = s.bank.signature then .fresh else .mismatch := by simp [presenceAfter]
  unfold State.acceptAnnounce
  simp only [decide_eq_true_eq, State.raiseIf_eq, presence, ← Bool.decide_and, ← Bool.decide_or, ← decide_not]
  rfl

/-- An ANNOUNCE agrees in phase: the round is the running one, and it comes within a half-cycle of its slot (R10). -/
abbrev State.PhaseAgrees (s : State) (i : StationNo) (a : Announced) : Prop :=
  a.round = s.timer.round ∧ s.timer.windowCount < 4 + 10 * i.val + 2 ∧ 4 + 10 * i.val < s.timer.windowCount + 2

/-- Whether a peer counted as heard before. -/
def RoundTimer.wasHeard (t : RoundTimer) (i : StationNo) : Bool :=
  match t.judged.get i with
  | some j => j.heard
  | none => false

theorem RoundTimer.wasHeard_iff (t : RoundTimer) (i : StationNo) :
    t.wasHeard i = true ↔ ∃ j, t.judged.get i = some j ∧ j.heard = true := by
  unfold RoundTimer.wasHeard
  cases t.judged.get i <;> simp

/-- The judged arrival that an ANNOUNCE leaves (R10, R11; log entry 14). -/
def State.judgedArrival (s : State) (i : StationNo) (a : Announced) : Judged :=
  ⟨s.timer.windowCount, a.round, !decide (s.PhaseAgrees i a),
    s.timer.wasHeard i || decide (a.signature = s.bank.signature)⟩

/-- The table entry with its phase judged. -/
def State.judgedEntry (s : State) (i : StationNo) (a : Announced) : PeerEntry :=
  { s.announcedEntry i a with agrees := decide (s.PhaseAgrees i a) }

/-- Below count N the phase is judged, and the candidate re-evaluated. -/
theorem State.judgePhase_announced {s : State} (i : StationNo) (a : Announced) (h : s.timer.windowCount < s.n) :
    (s.announced i a).judgePhase i a (decide (a.signature = s.bank.signature))
      = ({ s.announced i a with
          timer := { s.timer with judged := s.timer.judged.set i (some (s.judgedArrival i a)) }
          bank := { s.bank with peers := s.bank.peers.set i (s.judgedEntry i a) } } : State).reevaluate := by
  have disagrees : (decide (a.round ≠ s.timer.round) || decide (2 ≤ absDiff s.timer.windowCount (slotOf i)))
      = !decide (s.PhaseAgrees i a) := by
    rw [← Bool.decide_or, ← decide_not, decide_eq_decide, absDiff_eq]
    unfold State.PhaseAgrees slotOf
    omega
  have get : (s.bank.peers.set i (s.announcedEntry i a)).get i = s.announcedEntry i a := by simp
  have timer : (s.announced i a).timer = s.timer := rfl
  have peers : (s.announced i a).bank.peers = s.bank.peers.set i (s.announcedEntry i a) := rfl
  have below : (s.announced i a).timer.windowCount < (s.announced i a).n := h
  unfold State.judgePhase
  rw [if_pos below]
  simp only [timer, State.setTimer_bank, peers, get, PerEight.set_set, disagrees, Bool.not_not]
  rfl

/-- In any other case, only a listening record can change the timer (R8). -/
theorem State.acceptAnnounce_unjudged {s : State} {i : StationNo} {a : Announced}
    (h : ¬ (s.timer.timer = .phased ∧ s.timer.windowCount < s.n)) :
    s.acceptAnnounce i a
      = if s.timer.timer ≠ .phased ∧ a.signature = s.bank.signature ∧ s.timer.windowCount < s.n then
          (s.announced i a).setTimer { s.timer with
            listening := s.timer.listening.set i (some ⟨s.timer.windowCount, a.round⟩) }
        else s.announced i a := by
  rw [s.acceptAnnounce_eq i a]
  by_cases phased : s.timer.timer = .phased
  · have late : ¬ (s.announced i a).timer.windowCount < (s.announced i a).n := fun below => h ⟨phased, below⟩
    rw [if_pos phased, if_neg (by tauto)]
    exact if_neg late
  · simp only [State.recordListening, decide_eq_true_eq, ne_eq, phased, not_false_eq_true, true_and]
    rfl

/-! ### Its effect by block -/

/-- While PHASED below count N it is judged. -/
theorem State.acceptAnnounce_judged {s : State} (i : StationNo) (a : Announced)
    (h : s.timer.timer = .phased ∧ s.timer.windowCount < s.n) :
    s.acceptAnnounce i a = ({ s.announced i a with
          timer := { s.timer with judged := s.timer.judged.set i (some (s.judgedArrival i a)) }
          bank := { s.bank with peers := s.bank.peers.set i (s.judgedEntry i a) } } : State).reevaluate := by
  rw [s.acceptAnnounce_eq i a, if_pos h.1, State.judgePhase_announced i a h.2]

/-- The round timer's note of an accepted ANNOUNCE, and the peer's table entry: what else changes is the reason set. -/
theorem State.acceptAnnounce_blocks (s : State) (i : StationNo) (a : Announced) :
    ∃ timer, s.acceptAnnounce i a = { s with
      timer := timer
      bank := { s.bank with peers := (s.bank.peers.set i
        { s.announcedEntry i a with
          agrees := if s.timer.timer = .phased ∧ s.timer.windowCount < s.n then decide (s.PhaseAgrees i a)
            else (s.bank.peers.get i).agrees }) }
      host := { s.host with reasons := s.announcedReasons i a } } := by
  by_cases h : s.timer.timer = .phased ∧ s.timer.windowCount < s.n
  · rw [if_pos h, State.acceptAnnounce_judged i a h]
    exact ⟨_, rfl⟩
  · rw [if_neg h, State.acceptAnnounce_unjudged h]
    split <;> exact ⟨_, rfl⟩

/-- An ANNOUNCE of a peer that the configuration counts is accepted (R24). -/
theorem exec_announce_accepted {s : State} {i : StationNo} {q : StationState} {b1 b2 b3 b4 b5 b6 b7 b8 : Byte} {f : CanFrame}
    (ht : s.timer.timer ≠ .stopped) (hr : f.remote = false) (hid : f.identifier.toNat = 0x640 + i.val)
    (peer : i ≠ s.bank.ownNumber) (counted : i.val < s.store.bank.stationCount) (data : f.data = [b1, b2, b3, b4, b5, b6, b7, b8])
    (state : announcedState? (b2.toNat / 16) = some q) :
    exec (.announceArrival f) s = .next (s.acceptAnnounce i
      ⟨b1.toNat, ⟨q, b2.toNat % 16, b3.toNat * 16 + b4.toNat / 16, b4.toNat % 16 * 256 + b5.toNat, b6.toNat, b7.toNat⟩,
        b8.toNat⟩) := by
  rw [exec_arrival (.inl rfl), State.frameArrives_announce ht hr hid peer, data]
  refine congrArg _ ((if_neg (Nat.not_le.2 counted)).trans ?_)
  simp only [readAnnounce?, state, Option.map_some]
  rfl

/-- Settles O31: by whether the arrival is judged, leaves a listening record, or neither. -/
theorem acceptedAnnouncesUpdateThePeer : Obligations.AcceptedAnnouncesUpdateThePeer := by
  intro s i q code b1 b2 b3 b4 b5 b6 b7 b8 f ht hr hid peer counted data hcode hq old equal judged slot agrees
  have state : announcedState? (b2.toNat / 16) = some q := hcode ▸ announcedState_some hq
  refine ⟨_, exec_announce_accepted ht hr hid peer counted data state, ?_⟩
  generalize ha : Announced.mk b1.toNat _ b8.toNat = a
  have round : a.round = b1.toNat := ha ▸ rfl
  obtain ⟨timer, blocks⟩ := s.acceptAnnounce_blocks i a
  refine ⟨?_, ?_, fun h => ?_, fun listening same below => ?_, fun unjudged unheard => ?_, ?_⟩
  · rw [blocks, ← ha]
    rfl
  · rw [blocks, ← ha]
    rfl
  · rw [State.acceptAnnounce_judged i a h]
    refine ⟨State.reevaluate_candidateRight _, rfl, s.judgedArrival i a, rfl, rfl, round, ?_, ?_⟩
    · rw [← ha]
      simp only [State.judgedArrival, Bool.not_eq_true', decide_eq_false_iff_not]
      rfl
    · rw [← RoundTimer.wasHeard_iff, ← ha, or_comm]
      simp only [State.judgedArrival, Bool.or_eq_true, decide_eq_true_eq]
      rfl
  · rw [State.acceptAnnounce_unjudged (by simp [listening]), if_pos ⟨by simp [listening], by rw [← ha]; exact same, below⟩, round]
    rfl
  · rw [State.acceptAnnounce_unjudged unjudged, if_neg]
    · rfl
    · rintro ⟨phased, same, below⟩
      have listening : s.timer.timer = .listening := by
        cases h : s.timer.timer <;> simp_all
      rcases unheard listening with other | late
      · exact other (by rw [← ha] at same; exact same)
      · omega
  · rw [blocks]
    exact ⟨⟨rfl, rfl, rfl, rfl, rfl⟩, rfl, rfl, rfl, rfl⟩

end Sys2Proof.Machine
end

section
/-! PROOFS. The statement about the share position: the round closed, and the bank computations over the claimants. -/

namespace Sys2Proof.Machine

/-! ### The round that closes (R21, R33) -/

/-- The bank link after the share position: a record not SENT counts an unsent round. -/
def BankLink.closed (b : BankLink) : BankLink :=
  if b.record.status = .sent then b
  else
    { b with
      record := { b.record with status := if b.record.status = .pending then .dropped else b.record.status }
      unsent := min 3 (b.unsent + 1)
      solo := b.solo || decide (2 ≤ b.unsent) }

/-- The third unsent round raises SOLO. -/
theorem State.closeRound_eq (s : State) :
    s.closeRound = { s with
      bank := s.bank.closed
      host := { s.host with reasons := s.host.reasons
        ||| (if ¬ s.bank.record.status = .sent ∧ s.bank.unsent = 2 then 0x8000 else 0) } } := by
  unfold State.closeRound BankLink.closed
  by_cases sent : s.bank.record.status = .sent
  · simp [sent]
  · have count : (if s.bank.unsent < 3 then s.bank.unsent + 1 else 3) = min 3 (s.bank.unsent + 1) := by
      split <;> omega
    have third : min 3 (s.bank.unsent + 1) = 3 ↔ 2 ≤ s.bank.unsent := by omega
    have reaches : (s.bank.unsent < 3 ∧ 2 ≤ s.bank.unsent) ↔ s.bank.unsent = 2 := by omega
    simp only [sent, if_false, State.raiseIf_eq, count, third, ← Bool.decide_and, reaches, not_false_eq_true, true_and,
      decide_eq_true_eq]
    rfl

/-- A record is SENT after the round as before it, and keeps its figures. -/
theorem BankLink.closed_record (b : BankLink) :
    (b.closed.record.status = .sent ↔ b.record.status = .sent) ∧ b.closed.record.figures = b.record.figures := by
  unfold BankLink.closed
  by_cases sent : b.record.status = .sent
  · rw [if_pos sent]
    exact ⟨Iff.rfl, rfl⟩
  · rw [if_neg sent]
    refine ⟨?_, rfl⟩
    by_cases pending : b.record.status = .pending <;> simp [pending, sent]

theorem BankLink.closed_peers (b : BankLink) :
    b.closed.peers = b.peers ∧ b.closed.ownNumber = b.ownNumber ∧ b.closed.duplicateHold = b.duplicateHold := by
  unfold BankLink.closed
  split <;> exact ⟨rfl, rfl, rfl⟩

/-! ### The claimants (R35, R36, R45) -/

theorem State.closeRound_ownClaimant (s : State) (q : Resource) : s.closeRound.ownClaimant q = s.ownClaimant q := by
  obtain ⟨sent, figures⟩ := s.bank.closed_record
  rw [s.closeRound_eq]
  unfold State.ownClaimant
  simp only [sent, figures]
  rfl

theorem State.closeRound_peerClaimants (s : State) (q : Resource) : s.closeRound.peerClaimants q = s.peerClaimants q := by
  obtain ⟨peers, own, -⟩ := s.bank.closed_peers
  rw [s.closeRound_eq]
  unfold State.peerClaimants
  simp only [peers, own]
  rfl

/-- The own grants are computed over the same claimants once the round is closed. -/
theorem State.closeRound_bankGrant (s : State) (q : Resource) : s.closeRound.bankGrant q = s.bankGrant q := by
  have hold : s.closeRound.bank.duplicateHold = s.bank.duplicateHold := by
    rw [s.closeRound_eq]
    exact s.bank.closed_peers.2.2
  have limit : s.closeRound.limitOf q = s.limitOf q := by
    rw [s.closeRound_eq]
    cases q <;> rfl
  have fallback : ∀ l, s.closeRound.fallback l = s.fallback l := fun l => by
    rw [s.closeRound_eq]
    rfl
  unfold State.bankGrant State.claimants
  rw [s.closeRound_ownClaimant, s.closeRound_peerClaimants, hold, limit, fallback]

/-- How an entry is counted, in one line per presence. -/
theorem PeerEntry.claimant_eq (e : PeerEntry) (q : Resource) (fallback : Nat) :
    e.claimant q fallback = if e.presence = .absent then none
      else if e.presence = .fresh then some ⟨e.figures.firmOf q, e.figures.extraOf q, e.figures.priority⟩
      else some ⟨fallback, 0, e.figures.priority⟩ := by
  unfold PeerEntry.claimant
  cases e.presence <;> rfl

/-- The claimants of the peers, over all numbers but the own one and those of absent entries. -/
theorem State.peerClaimants_eq (s : State) (q : Resource) :
    s.peerClaimants q = eightNumbers.filterMap fun i =>
      if i = s.bank.ownNumber ∨ (s.bank.peers.get i).presence = .absent then none
      else if (s.bank.peers.get i).presence = .fresh then
        some ⟨(s.bank.peers.get i).figures.firmOf q, (s.bank.peers.get i).figures.extraOf q,
          (s.bank.peers.get i).figures.priority⟩
      else some ⟨s.fallback (s.limitOf q), 0, (s.bank.peers.get i).figures.priority⟩ := by
  unfold State.peerClaimants
  rw [List.filterMap_filter]
  refine congrArg (List.filterMap · _) (funext fun i => ?_)
  by_cases own : i = s.bank.ownNumber
  · simp [own]
  · simp [own, PeerEntry.claimant_eq]

/-! ### The share unit (R46 to R48) -/

/-- What the share unit keeps of its two computations. -/
def State.sharesComputed (s : State) : ShareUnit :=
  ⟨(s.bankGrant .power).1, (s.bankGrant .nitrogen).1, (s.ownClaimant .power).firm, (s.ownClaimant .nitrogen).firm,
    (s.bankGrant .power).2, (s.bankGrant .nitrogen).2, decide ((s.bankGrant .power).2 < (s.ownClaimant .power).firm),
    decide ((s.bankGrant .nitrogen).2 < (s.ownClaimant .nitrogen).firm), decide (0 < s.bank.duplicateHold)⟩

/-- A shortfall flag is newly set. -/
def ShareUnit.newlyShort (before after : ShareUnit) : Bool :=
  (!before.powerShort && after.powerShort) || (!before.nitrogenShort && after.nitrogenShort)

theorem State.shareUnitWork_eq (s : State) :
    s.shareUnitWork = { s with
      share := s.sharesComputed
      host := { s.host with reasons := s.host.reasons
        ||| (if s.share.newlyShort s.sharesComputed then 0x1000 else 0) } } :=
  State.raiseIf_eq _ _ _

theorem State.shareWork_closed (s : State) :
    s.shareWork = { s with
      bank := s.bank.closed
      share := s.sharesComputed
      host := { s.host with reasons := s.host.reasons
        ||| (if ¬ s.bank.record.status = .sent ∧ s.bank.unsent = 2 then 0x8000 else 0)
        ||| (if s.share.newlyShort s.sharesComputed then 0x1000 else 0) } } := by
  have shares : s.closeRound.sharesComputed = s.sharesComputed := by
    unfold State.sharesComputed
    simp only [s.closeRound_bankGrant, s.closeRound_ownClaimant]
    rw [s.closeRound_eq, s.bank.closed_peers.2.2]
  rw [State.shareWork, s.closeRound.shareUnitWork_eq, shares, s.closeRound_eq]

/-- A grant and its firm part under the cap of a duplicate hold (R46, R47). -/
theorem State.bankGrant_eq (s : State) (q : Resource) :
    let g := grantOf (s.limitOf q) (s.ownClaimant q :: s.peerClaimants q) (s.ownClaimant q)
    let total := if 0 < s.bank.duplicateHold then min g.total (s.fallback (s.limitOf q)) else g.total
    s.bankGrant q = (total, if 0 < s.bank.duplicateHold then min g.firm total else g.firm) := by
  intro g total
  unfold State.bankGrant
  by_cases hold : 0 < s.bank.duplicateHold
  · have capped : total = min g.total (s.fallback (s.limitOf q)) := if_pos hold
    rw [if_pos hold, if_pos hold, capped]
    rfl
  · have full : total = g.total := if_neg hold
    rw [if_neg hold, if_neg hold, full]
    rfl

/-- Settles O40: the share position's work, with its claimants and grants spelled out. -/
theorem sharePositionComputesTheGrants : Obligations.SharePositionComputesTheGrants := by
  intro s h b sent limit firm extra fallback own peers computed cap grant firmGrant short newlySolo newlyShort
  have ownClaimant : ∀ q, s.ownClaimant q = own q := fun q => by
    cases q <;> exact rfl
  have peerClaimants : ∀ q, s.peerClaimants q = peers q := fun q => by
    cases q <;> exact s.peerClaimants_eq _
  have granted : ∀ q, s.bankGrant q = (grant q, firmGrant q) := fun q => by
    rw [s.bankGrant_eq q, ownClaimant, peerClaimants]
    cases q <;> rfl
  have shares : s.sharesComputed = ⟨grant .power, grant .nitrogen, (own .power).firm, (own .nitrogen).firm, firmGrant .power,
      firmGrant .nitrogen, decide (short .power), decide (short .nitrogen), decide cap⟩ := by
    unfold State.sharesComputed
    rw [granted, granted, ownClaimant, ownClaimant]
  have flags : s.share.newlyShort s.sharesComputed = decide newlyShort := by
    rw [shares]
    simp [ShareUnit.newlyShort, newlyShort]
  rw [exec_row_of_reaches (by simp) h, State.boundary_share h, State.shareWork_closed]
  have counted : s.counted.sharesComputed = s.sharesComputed := rfl
  have share : s.counted.share = s.share := rfl
  rw [share, counted, flags, shares]
  simp only [decide_eq_true_eq]
  rfl

end Sys2Proof.Machine
end

section
/-! PROOFS. The statement about the reads of the peer table, the queue and the outcomes. -/

namespace Sys2Proof.Machine

/-- READ_PEER answers with the page of the number asked for (R37, R38). -/
theorem exec_readPeer {s : State} {i : StationNo} (h : s.Taken 0x33) (hi : byteAt s.host.buffer 2 = i.val) :
    exec .readPeer s = .next (s.answered 0x33 .ok (s.bank.peerPage i)) := by
  have number : Fin.ofNat 8 (byteAt s.host.buffer 2) = i := by
    rw [hi]
    exact Fin.ofNat_val_eq_self i
  refine congrArg _ ((State.command_of_taken _ h).trans ?_)
  rw [State.endTransaction_buffer, State.endTransaction_bank, number, if_neg (by omega)]
  exact State.reply_endTransaction h.2.2 _ _

/-- READ_QUEUE answers with the page asked for, at the index asked for (R158). -/
theorem exec_readQueue {s : State} (h : s.Taken 0x34) :
    exec .readQueue s = .next (s.answered 0x34 .ok
      (s.exec.queuePage (byteAt s.host.buffer 2) (byteAt s.host.buffer 3))) :=
  congrArg _ ((State.command_of_taken _ h).trans (State.reply_endTransaction h.2.2 _ _))

/-- READ_OUTCOME answers with the outcome at the index asked for (R158). -/
theorem exec_readOutcome {s : State} (h : s.Taken 0x35) :
    exec .readOutcome s = .next (s.answered 0x35 .ok (outcomeBytes s.exec.outcomes[byteAt s.host.buffer 2]?)) :=
  congrArg _ ((State.command_of_taken _ h).trans (State.reply_endTransaction h.2.2 _ _))

/-- Pages above the last are 0 (R177). -/
theorem Executor.queuePage_above (e : Executor) (index : Nat) {page : Nat} (h : 2 < page) : e.queuePage index page = [] := by
  unfold Executor.queuePage
  split
  case h_4 => rfl
  all_goals omega

/-- Page 2 of the queue, with what it shows of a segment or an urgent command that is not there. -/
theorem Executor.queuePage2_eq (e : Executor) :
    let kind := fun k : Option UrgentKind => match k with
      | some k => one k.code
      | none => [0]
    e.queuePage2 = (match e.current with
        | some c => two c.windows ++ two c.heldWindows ++ two c.curtailedWindows ++ yesNo c.skipPending
        | none => [0, 0, 0, 0, 0, 0, 0])
      ++ one e.queue.length ++ e.shadow.bytes ++ kind e.urgent ++ kind e.lastKind ++ one e.lastResult.code
      ++ two e.nextId ++ one e.lowMark := by
  have kind : ∀ k : Option UrgentKind, one (urgentCode k) = match k with
      | some k => one k.code
      | none => [0] := fun k => by cases k <;> rfl
  unfold Executor.queuePage2
  rw [kind, kind]
  cases e.current <;> rfl

/-- Settles O7: the pages of each read, by what the index and the page name. -/
theorem readPeerQueueAndOutcomeReturnTheirEntries : Obligations.ReadPeerQueueAndOutcomeReturnTheirEntries := by
  refine ⟨fun s i h hi peer => ?_, fun s h own => ?_, fun s h => ?_, fun s h => ?_⟩
  · rw [exec_readPeer h hi, BankLink.peerPage, if_neg peer]
    simp only [PeerEntry.bytes, Figures.bytes, List.append_assoc]
  · rw [exec_readPeer h own, BankLink.peerPage, if_pos rfl]
    simp only [BankLink.ownBytes, Figures.bytes, List.append_assoc]
  · refine ⟨_, exec_readQueue h, fun page c current => ?_, fun page none => ?_, fun page queued => ?_, fun page beyond => ?_,
      fun page => ?_, fun page => s.exec.queuePage_above _ page⟩
    · rw [page]
      simp [Executor.queuePage, current, segmentEntry]
    · rw [page]
      simp only [Executor.queuePage, none]
      rfl
    · rw [page]
      simp [Executor.queuePage, segmentEntry, List.getElem?_eq_getElem queued]
    · rw [page]
      simp only [Executor.queuePage, List.getElem?_eq_none beyond]
      rfl
    · rw [page]
      exact s.exec.queuePage2_eq
  · refine ⟨_, exec_readOutcome h, fun listed => ?_, fun beyond => ?_⟩
    · rw [List.getElem?_eq_getElem listed]
      rfl
    · rw [List.getElem?_eq_none beyond]
      rfl

end Sys2Proof.Machine
end

section
/-! PROOFS. The statements about the share computation: the firm stage, the extra stage in closed form, and law L1. -/

namespace Sys2Proof.Machine

/-! ### Extra figures by level (R41) -/

/-- The sum of the extra figures of the claimants of a kind. -/
def extraWhere (cs : List Claimant) (keep : Claimant → Bool) : Nat := ((cs.filter keep).map Claimant.extra).sum

/-- The extra figures of the levels above `p` and below `top`. -/
def extraBetween (cs : List Claimant) (p top : Nat) : Nat :=
  extraWhere cs fun d => decide (p < d.priority ∧ d.priority < top)

/-- A sum over the claimants of a kind is one over all claimants, the others counted as 0. -/
theorem extraWhere_eq_sum (cs : List Claimant) (keep : Claimant → Bool) :
    extraWhere cs keep = (cs.map fun c => if keep c then c.extra else 0).sum := by
  simp [extraWhere, List.sum_map_ite]

theorem levelExtra_eq_sum (cs : List Claimant) (p : Nat) :
    levelExtra cs p = (cs.map fun c => if c.priority = p then c.extra else 0).sum :=
  (extraWhere_eq_sum cs _).trans (by simp only [decide_eq_true_eq])

/-- No level lies between a level and the one above it. -/
theorem extraBetween_succ_self (cs : List Claimant) (p : Nat) : extraBetween cs p (p + 1) = 0 := by
  have unlisted : ∀ d ∈ cs, ¬ decide (p < d.priority ∧ d.priority < p + 1) = true := fun d _ => by
    rw [decide_eq_true_eq]
    omega
  rw [extraBetween, extraWhere, List.filter_eq_nil_iff.2 unlisted]
  rfl

theorem extraBetween_succ (cs : List Claimant) {p top : Nat} (h : p < top) :
    extraBetween cs p (top + 1) = levelExtra cs top + extraBetween cs p top := by
  unfold extraBetween
  rw [extraWhere_eq_sum, extraWhere_eq_sum, levelExtra_eq_sum, ← List.sum_map_add]
  refine congrArg List.sum (List.map_congr_left fun c _ => ?_)
  simp only [decide_eq_true_eq]
  split_ifs <;> omega

/-! ### The rule of a level -/

/-- The rule of a level in closed form: nothing when the levels above exceed the remainder, and otherwise in full or scaled to
what they leave of it (R41). -/
theorem levelRule_eq (cs : List Claimant) {top p : Nat} (r : Nat) (h : p < top) :
    levelRule cs top r p =
      if r < extraBetween cs p top then .nothing
      else if levelExtra cs p ≤ r - extraBetween cs p top then .full
      else .scaled (r - extraBetween cs p top) (levelExtra cs p) := by
  induction top generalizing r with
  | zero => omega
  | succ top ih =>
    rw [levelRule]
    by_cases own : p = top
    · subst own
      simp [extraBetween_succ_self]
    · have below : p < top := by omega
      simp only [own, if_false]
      rw [extraBetween_succ cs below]
      by_cases fits : levelExtra cs top ≤ r
      · have left : r - levelExtra cs top < extraBetween cs p top ↔ r < levelExtra cs top + extraBetween cs p top := by omega
        simp only [if_pos fits, ih _ below, left, Nat.sub_sub]
      · rw [if_neg fits, if_pos (by omega)]

/-- The rule of a level reads of the claimants only the extra figures of the levels. -/
theorem levelRule_congr {cs ds : List Claimant} (h : ∀ p, levelExtra ds p = levelExtra cs p) (top r p : Nat) :
    levelRule ds top r p = levelRule cs top r p := by
  induction top generalizing r with
  | zero => rfl
  | succ top ih => simp only [levelRule, h, ih]

/-- A scaled share of a figure is no more than the figure. -/
theorem scaled_le {r t : Nat} (x : Nat) (h : r ≤ t) : x * r / t ≤ x :=
  Nat.div_le_of_le_mul ((Nat.mul_le_mul_left x h).trans_eq (Nat.mul_comm x t))

/-- No level is granted more than its figures (R42). -/
theorem levelRule_grant_le (cs : List Claimant) (top r p x : Nat) : (levelRule cs top r p).grant x ≤ x := by
  induction top generalizing r with
  | zero => exact Nat.zero_le x
  | succ top ih =>
    rw [levelRule]
    by_cases fits : levelExtra cs top ≤ r
    · rw [if_pos fits]
      split
      · exact le_rfl
      · exact ih _
    · rw [if_neg fits]
      split
      · exact scaled_le x (by omega)
      · exact Nat.zero_le x

/-- Scaled figures, each rounded down, sum to at most what they are scaled to. -/
theorem sum_scaled_le {α : Type} (l : List α) (f : α → Nat) (r : Nat) :
    (l.map fun a => f a * r / (l.map f).sum).sum ≤ r := by
  have scaled : ∀ t, (l.map fun a => f a * r / t).sum ≤ (l.map f).sum * r / t := fun t => by
    induction l with
    | nil => simp
    | cons a l ih =>
      simp only [List.map_cons, List.sum_cons, Nat.add_mul]
      exact (Nat.add_le_add_left ih _).trans Nat.div_add_div_le_add_div
  exact (scaled _).trans (Nat.div_le_of_le_mul le_rfl)

/-- The extra stage shares out no more than its remainder (R42). -/
theorem sum_levelRule_grant_le (cs : List Claimant) (top r : Nat) :
    (cs.map fun c => (levelRule cs top r c.priority).grant c.extra).sum ≤ r := by
  induction top generalizing r with
  | zero => simp [levelRule, LevelRule.grant]
  | succ top ih =>
    have level := levelExtra_eq_sum cs top
    by_cases fits : levelExtra cs top ≤ r
    · calc (cs.map fun c => (levelRule cs (top + 1) r c.priority).grant c.extra).sum
          ≤ (cs.map fun c => (if c.priority = top then c.extra else 0)
              + (levelRule cs top (r - levelExtra cs top) c.priority).grant c.extra).sum := by
            refine List.sum_le_sum fun c _ => ?_
            rw [levelRule, if_pos fits]
            by_cases own : c.priority = top
            · simp [own, LevelRule.grant]
            · simp [own]
        _ = levelExtra cs top
              + (cs.map fun c => (levelRule cs top (r - levelExtra cs top) c.priority).grant c.extra).sum := by
            rw [List.sum_map_add, ← level]
        _ ≤ r := by
            have rest := ih (r - levelExtra cs top)
            omega
    · calc (cs.map fun c => (levelRule cs (top + 1) r c.priority).grant c.extra).sum
          = (cs.map fun c => (if c.priority = top then c.extra else 0) * r / levelExtra cs top).sum := by
            refine congrArg List.sum (List.map_congr_left fun c _ => ?_)
            rw [levelRule, if_neg fits]
            by_cases own : c.priority = top <;> simp [own, LevelRule.grant]
        _ ≤ r := level ▸ sum_scaled_le cs _ r

/-! ### One claimant's grant -/

/-- Firm figures that fit the limit are granted, and the rest of the limit is the extra stage's (R40). -/
theorem grantOf_of_fits {limit : Nat} {cs : List Claimant} (h : firmTotal cs ≤ limit) (c : Claimant) :
    grantOf limit cs c = ⟨c.firm, (levelRule cs 16 (limit - firmTotal cs) c.priority).grant c.extra⟩ := if_pos h

/-- Firm figures that do not fit the limit are scaled, and no extra is granted (R40). -/
theorem grantOf_of_exceeds {limit : Nat} {cs : List Claimant} (h : limit < firmTotal cs) (c : Claimant) :
    grantOf limit cs c = ⟨c.firm * limit / firmTotal cs, 0⟩ := if_neg (by omega)

/-- A claimant's grant is within its figures (R42). -/
theorem grantOf_le (limit : Nat) (cs : List Claimant) (c : Claimant) :
    (grantOf limit cs c).firm ≤ c.firm ∧ (grantOf limit cs c).extra ≤ c.extra := by
  rcases Nat.lt_or_ge limit (firmTotal cs) with exceeds | fits
  · rw [grantOf_of_exceeds exceeds]
    exact ⟨scaled_le _ exceeds.le, Nat.zero_le _⟩
  · rw [grantOf_of_fits fits]
    exact ⟨le_rfl, levelRule_grant_le ..⟩

/-- The grants sum to at most the limit (R42). -/
theorem sum_grantOf_le (limit : Nat) (cs : List Claimant) :
    (cs.map fun c => (grantOf limit cs c).total).sum ≤ limit := by
  rcases Nat.lt_or_ge limit (firmTotal cs) with exceeds | fits
  · simp only [grantOf_of_exceeds exceeds, Grant.total, Nat.add_zero]
    exact sum_scaled_le cs Claimant.firm limit
  · have extra := sum_levelRule_grant_le cs 16 (limit - firmTotal cs)
    simp only [grantOf_of_fits fits, Grant.total, List.sum_map_add]
    have firm : (cs.map Claimant.firm).sum = firmTotal cs := rfl
    omega

/-- The grant of the claimant at a place of the list stands at that place. -/
theorem shareComputation_getElem? {cs : List Claimant} (limit : Nat) {k : Nat} (h : k < cs.length) :
    (shareComputation limit cs)[k]? = some (grantOf limit cs cs[k]) := by
  simp [shareComputation, h]

/-! ### The statements -/

/-- Claimants without their firm figures have no firm figures to sum, and the extra figures of every level. -/
theorem levels_withoutFirm (cs : List Claimant) :
    firmTotal (cs.map fun c => { c with firm := 0 }) = 0
      ∧ ∀ p, levelExtra (cs.map fun c => { c with firm := 0 }) p = levelExtra cs p := by
  refine ⟨?_, fun p => ?_⟩
  · simp [firmTotal, Function.comp_def]
  · simp [levelExtra_eq_sum, Function.comp_def]

/-- Settles O37: the two cases of the firm stage, and what the extra stage reads of the claimants. -/
theorem firmStage : Obligations.FirmStage := by
  intro limit cs total
  refine ⟨fun fits => ⟨?_, ?_⟩, fun exceeds => ?_, fun k h unclaimed => ?_⟩
  · simp [shareComputation, Function.comp_def, grantOf_of_fits fits]
  · obtain ⟨noFirm, levels⟩ := levels_withoutFirm cs
    simp only [shareComputation, List.map_map]
    refine List.map_congr_left fun c _ => ?_
    simp only [Function.comp_apply]
    rw [grantOf_of_fits fits, grantOf_of_fits (noFirm.trans_le (Nat.zero_le _)), noFirm, Nat.sub_zero, levelRule_congr levels]
    rfl
  · exact List.map_congr_left fun c _ => grantOf_of_exceeds exceeds c
  · have firm := (grantOf_le limit cs cs[k]).1
    rw [shareComputation_getElem? limit h, Option.map_some, Nat.le_zero.1 (firm.trans_eq unclaimed)]

/-- Settles O38: the closed form of a level's rule, from the 16 levels above which there is none. -/
theorem extraStage : Obligations.ExtraStage := by
  intro limit cs low fits r sumOf
  rw [shareComputation, List.map_map]
  refine List.map_congr_left fun c hc => ?_
  have above : extraBetween cs c.priority 16 = sumOf fun d => decide (c.priority < d.priority) := by
    refine congrArg (fun l => (List.map Claimant.extra l).sum) (List.filter_congr fun d hd => ?_)
    have := low d hd
    exact decide_eq_decide.2 (by omega)
  have own : levelExtra cs c.priority = sumOf fun d => decide (d.priority = c.priority) := rfl
  have rule := levelRule_eq cs r (Nat.lt_succ_of_le (low c hc))
  rw [above, own] at rule
  calc (grantOf limit cs c).extra
      = (levelRule cs 16 r c.priority).grant c.extra := congrArg Grant.extra (grantOf_of_fits fits c)
    _ = _ := by
      rw [rule]
      dsimp only
      split
      · rfl
      · split <;> rfl

/-- Settles O39: law L1, from the bounds of one grant and of the sum of all. -/
theorem grantsStayWithinTheLimit : Obligations.GrantsStayWithinTheLimit := by
  intro limit cs
  refine ⟨?_, fun k h => ⟨_, shareComputation_getElem? limit h, grantOf_le limit cs _⟩⟩
  rw [shareComputation, List.map_map]
  exact sum_grantOf_le limit cs

end Sys2Proof.Machine
end

section
/-! PROOFS. The statement about the split of the power grant at the control position, with law L3. -/

namespace Sys2Proof.Machine

/-! ### The split over the claimants (R79) -/

theorem State.zoneClaims_iff (s : State) (z : ZoneId) :
    s.zoneClaims z = true ↔ (s.store.zones.get z).inUse = true ∧ (s.zones.zones.get z).tripped = false
      ∧ (s.ramp.zones.get z).setpoint ≠ none := by
  simp [State.zoneClaims, Option.isSome_iff_ne_none, and_assoc]

theorem State.zoneGrant_of_claims {s : State} {z : ZoneId} (h : s.zoneClaims z = true) :
    s.zoneGrant z = (grantOf s.share.powerGrant s.zoneClaimants (s.zones.zones.get z).claimant).total := if_pos h

theorem State.zoneGrant_of_not_claims {s : State} {z : ZoneId} (h : ¬ s.zoneClaims z = true) : s.zoneGrant z = 0 := if_neg h

/-- A zone claims its power demand, firm or extra by its class. -/
theorem ZoneState.claimant_eq (v : ZoneState) :
    v.claimant = if v.zoneClass = .firm then ⟨v.powerDemand, 0, 0⟩ else ⟨0, v.powerDemand, 0⟩ := by
  unfold ZoneState.claimant
  cases v.zoneClass <;> rfl

theorem ZoneState.claimant_total (v : ZoneState) : v.claimant.firm + v.claimant.extra = v.powerDemand := by
  unfold ZoneState.claimant
  cases v.zoneClass
  · rfl
  · exact Nat.zero_add _

/-- No zone is granted more than its demand. -/
theorem State.zoneGrant_le (s : State) (z : ZoneId) : s.zoneGrant z ≤ (s.zones.zones.get z).powerDemand := by
  by_cases claims : s.zoneClaims z = true
  · rw [State.zoneGrant_of_claims claims, ← ZoneState.claimant_total]
    obtain ⟨firm, extra⟩ := grantOf_le s.share.powerGrant s.zoneClaimants (s.zones.zones.get z).claimant
    exact Nat.add_le_add firm extra
  · rw [State.zoneGrant_of_not_claims claims]
    exact Nat.zero_le _

/-- The zones are granted together no more than the own power grant: law L1 over the zones that claim. -/
theorem State.sum_zoneGrant_le (s : State) : (ZoneId.list.map s.zoneGrant).sum ≤ s.share.powerGrant := by
  have overClaimants : ∀ f : Claimant → Nat, (s.zoneClaimants.map f).sum
      = (ZoneId.list.map fun z => if s.zoneClaims z then f (s.zones.zones.get z).claimant else 0).sum := fun f => by
    rw [List.sum_map_ite]
    simp [State.zoneClaimants, Function.comp_def]
  exact (overClaimants _).symm.trans_le (sum_grantOf_le s.share.powerGrant s.zoneClaimants)

/-! ### The zones after the control position -/

/-- The state that the split reads: the control law applied to every zone, and the power figures summed (R74 to R78). -/
def State.afterLaw (s : State) : State :=
  let u := s.mapZones s.controlLaw
  u.setZones { u.zones with powerFirm := u.classDemand .firm, powerExtra := u.classDemand .rising }

theorem State.afterLaw_zone (s : State) (z : ZoneId) :
    s.afterLaw.zones.zones.get z = s.controlLaw z (s.zones.zones.get z) := by
  simp [State.afterLaw, State.mapZones]

/-- The control law writes the integral, the demands and the class. -/
theorem State.controlLaw_eq (s : State) (z : ZoneId) (v : ZoneState) :
    ∃ i d p k, s.controlLaw z v = { v with integral := i, demand := d, powerDemand := p, zoneClass := k } := by
  unfold State.controlLaw
  dsimp only
  split
  · split
    · exact ⟨_, _, _, _, rfl⟩
    · split <;> exact ⟨_, _, _, _, rfl⟩
  · exact ⟨_, _, _, _, rfl⟩

/-- Which zones claim after the control law, by what stood before it (R79). -/
theorem State.afterLaw_claims_iff (s : State) (z : ZoneId) :
    s.afterLaw.zoneClaims z = true ↔ (s.store.zones.get z).inUse = true ∧ (s.zones.zones.get z).tripped = false
      ∧ (s.ramp.zones.get z).setpoint ≠ none := by
  rw [State.zoneClaims_iff, s.afterLaw_zone, (s.controlLaw_sameFiring z _).tripped]
  rfl

/-- A zone after the control position's boundary: the split's grant, duty and flag, and the firing of the half-cycle that
begins. -/
def State.zoneSplit (s : State) (z : ZoneId) : ZoneState :=
  { s.afterLaw.fixDuty z (s.controlLaw z (s.zones.zones.get z)) with
    gate := s.firesNext z
    fired := if s.firesNext z then (s.zones.zones.get z).fired + 1 else (s.zones.zones.get z).fired }

/-- The split leaves the figures of a zone's claim and its trip. -/
theorem State.zoneSplit_claim (s : State) (z : ZoneId) :
    (s.zoneSplit z).powerDemand = (s.afterLaw.zones.zones.get z).powerDemand
      ∧ (s.zoneSplit z).zoneClass = (s.afterLaw.zones.zones.get z).zoneClass
      ∧ (s.zoneSplit z).tripped = (s.zones.zones.get z).tripped := by
  rw [s.afterLaw_zone]
  exact ⟨rfl, rfl, (s.controlLaw_sameFiring z _).tripped⟩

/-- The claim of a zone, by its figures after the split. -/
theorem State.zoneSplit_claimant (s : State) (z : ZoneId) :
    (s.afterLaw.zones.zones.get z).claimant = if (s.zoneSplit z).zoneClass = .firm
      then ⟨(s.zoneSplit z).powerDemand, 0, 0⟩ else ⟨0, (s.zoneSplit z).powerDemand, 0⟩ := by
  obtain ⟨demand, zoneClass, -⟩ := s.zoneSplit_claim z
  rw [demand, zoneClass]
  exact ZoneState.claimant_eq _

theorem State.zoneSplit_granted (s : State) (z : ZoneId) : (s.zoneSplit z).granted = s.afterLaw.zoneGrant z := rfl

/-- The duty is fixed from the grant, and is 0 where the mains or the station forbids firing (R80). -/
theorem State.zoneSplit_dutyNext (s : State) (z : ZoneId) :
    (s.zoneSplit z).dutyNext = if s.sup.station = .joining ∨ s.sup.station = .halted ∨ s.timer.mains = .lost then 0
      else (s.zoneSplit z).granted * s.n / (s.store.zones.get z).rated := by
  have forced : s.dutiesZero = true ↔ s.sup.station = .joining ∨ s.sup.station = .halted ∨ s.timer.mains = .lost := by
    simp [State.dutiesZero, or_assoc]
  calc (s.zoneSplit z).dutyNext
      = if s.dutiesZero then 0 else (s.zoneSplit z).granted * s.n / (s.store.zones.get z).rated := rfl
    _ = _ := if_congr forced rfl rfl

/-- A zone's duty weighted by its rated power is within its grant over the window. -/
theorem State.zoneSplit_weighted_le (s : State) (z : ZoneId) :
    (s.zoneSplit z).dutyNext * (s.store.zones.get z).rated ≤ (s.zoneSplit z).granted * s.n := by
  rw [s.zoneSplit_dutyNext]
  split
  · simp
  · exact Nat.div_mul_le_self _ _

/-- Law L3: the duties weighted by rated power are within the power grant over the window. -/
theorem State.sum_weighted_le (s : State) :
    (ZoneId.list.map fun z => (s.zoneSplit z).dutyNext * (s.store.zones.get z).rated).sum ≤ s.share.powerGrant * s.n :=
  calc (ZoneId.list.map fun z => (s.zoneSplit z).dutyNext * (s.store.zones.get z).rated).sum
      ≤ (ZoneId.list.map fun z => s.afterLaw.zoneGrant z * s.n).sum :=
        List.sum_le_sum fun z _ => s.zoneSplit_weighted_le z
    _ = (ZoneId.list.map s.afterLaw.zoneGrant).sum * s.n := List.sum_map_mul_right ..
    _ ≤ s.share.powerGrant * s.n := Nat.mul_le_mul_right _ s.afterLaw.sum_zoneGrant_le

/-- What the split changes of a zone beside the half-cycle that begins. -/
theorem State.zoneSplit_frame (s : State) (z : ZoneId) :
    ∃ i d p k g n c, s.zoneSplit z = { s.zonesFired.zones.get z with
      integral := i, demand := d, powerDemand := p, zoneClass := k, granted := g, dutyNext := n, curtailedNext := c } := by
  obtain ⟨i, d, p, k, law⟩ := s.controlLaw_eq z (s.zones.zones.get z)
  unfold State.zoneSplit State.zonesFired
  rw [law, PerZone.get_ofFn]
  exact ⟨i, d, p, k, _, _, _, rfl⟩

/-- The control position's boundary changes the zones, by the split, the two power figures, the gas unit, and the count. -/
theorem exec_controlPosition {s : State} (h : s.NextReaches (s.n - 10)) :
    exec .controlPosition s = .next { s with
      timer := s.timer.counted
      zones := { s.counted.controlWork.zones with zones := PerZone.ofFn s.zoneSplit }
      gas := s.counted.controlWork.gas } := by
  have split : ∀ z, { s.counted.controlWork.zones.zones.get z with
      gate := s.firesNext z
      fired := if s.firesNext z then (s.counted.controlWork.zones.zones.get z).fired + 1
        else (s.counted.controlWork.zones.zones.get z).fired } = s.zoneSplit z := fun z => by
    rw [(s.counted.controlWork_sameFiring z).fired]
    have zone : s.counted.controlWork.zones.zones.get z = s.afterLaw.fixDuty z (s.controlLaw z (s.zones.zones.get z)) := by
      rw [← s.afterLaw_zone]
      exact PerZone.get_ofFn _ z
    rw [zone]
    rfl
  rw [exec_row_of_reaches (by simp) h, State.boundary_control h]
  simp only [split]
  rfl

/-- Settles O42: the zones of the split are those of the control law, and law L3 is law L1 over them. -/
theorem controlPositionSplitsThePower : Obligations.ControlPositionSplitsThePower := by
  intro s h
  have zone : ∀ z, (PerZone.ofFn s.zoneSplit).get z = s.zoneSplit z := PerZone.get_ofFn _
  refine ⟨_, exec_controlPosition h, rfl, rfl, rfl, rfl, rfl, rfl, rfl, rfl, rfl, rfl, fun z => ?_, ?_, ?_, fun z => ?_⟩
  · intro w claims claimant claimants forced
    have claimant_eq : ∀ y, (s.afterLaw.zones.zones.get y).claimant = claimant y := fun y => by
      rw [s.zoneSplit_claimant, ← zone]
    have claimants_eq : s.afterLaw.zoneClaimants = claimants := by
      have filter : s.afterLaw.zoneClaims = fun y => decide (claims y) := funext fun y =>
        Bool.eq_iff_iff.2 ((s.afterLaw_claims_iff y).trans decide_eq_true_iff.symm)
      rw [State.zoneClaimants, filter, funext claimant_eq]
      rfl
    have split : w = s.zoneSplit z := zone z
    obtain ⟨demand, -, tripped⟩ := s.zoneSplit_claim z
    rw [split, demand, tripped, s.zoneSplit_granted]
    refine ⟨fun hc => ?_, s.afterLaw.zoneGrant_le z, fun out => ?_, s.zoneSplit_dutyNext z, ?_⟩
    · rw [State.zoneGrant_of_claims ((s.afterLaw_claims_iff z).2 hc), claimants_eq, claimant_eq]
      rfl
    · refine State.zoneGrant_of_not_claims fun hc => ?_
      obtain ⟨inUse, untripped, setpoint⟩ := (s.afterLaw_claims_iff z).1 hc
      simp [inUse, untripped, setpoint] at out
    · rw [← demand]
      exact decide_eq_true_iff
  · simp only [zone, s.zoneSplit_granted]
    exact s.afterLaw.sum_zoneGrant_le
  · simp only [zone]
    exact s.sum_weighted_le
  · rw [zone]
    exact s.zoneSplit_frame z

end Sys2Proof.Machine
end

section
/-! SUPPORT. The scanner's operations, each said once: the reading a conversion forms, the marks of a failed check, the
channel's row, and what the zone controller does with a completed thermocouple conversion (chapters 4 and 5). -/

namespace Sys2Proof.Machine

/-! ### Readings and marks (R57, R61, R64) -/

/-- The reading that a thermocouple conversion forms under the slot's judgement and the checks as they stand (R57). -/
def Scanner.thermocoupleRead (c : Scanner) (m : Int) (old : Reading) : Reading :=
  thermocoupleReading (c.openJudged.getD false) c.cjCheck c.refCheck m old

/-- The table of R57: a missing judgement is read as closed. -/
theorem Scanner.thermocoupleRead_eq (c : Scanner) (m : Int) (old : Reading) :
    c.thermocoupleRead m old = if c.openJudged = some true then old.hold .openCircuit
      else if c.cjCheck = .fail ∨ c.refCheck = .fail then old.hold .fault
      else if 15000 < m then ⟨15000, .over, 0⟩
      else if m < 0 then ⟨0, .under, 0⟩
      else ⟨m.toNat, .valid, 0⟩ := by
  have isOpen : c.openJudged.getD false = true ↔ c.openJudged = some true := by
    rcases c.openJudged with _ | _ | _ <;> simp
  exact if_congr isOpen rfl rfl

/-- The table of R57, line by line. -/
theorem Scanner.thermocoupleRead_table (c : Scanner) (m : Int) (old : Reading) :
    (c.openJudged = some true → c.thermocoupleRead m old = old.hold .openCircuit)
    ∧ (c.openJudged ≠ some true → c.cjCheck = .fail ∨ c.refCheck = .fail →
        c.thermocoupleRead m old = old.hold .fault)
    ∧ (c.openJudged ≠ some true → c.cjCheck ≠ .fail → c.refCheck ≠ .fail →
        (15000 < m → c.thermocoupleRead m old = ⟨15000, .over, 0⟩)
        ∧ (m < 0 → c.thermocoupleRead m old = ⟨0, .under, 0⟩)
        ∧ (0 ≤ m → m ≤ 15000 → c.thermocoupleRead m old = ⟨m.toNat, .valid, 0⟩)) := by
  rw [c.thermocoupleRead_eq]
  refine ⟨fun isOpen => if_pos isOpen, fun closed failed => ?_, fun closed cj ref => ?_⟩
  · rw [if_neg closed, if_pos failed]
  · rw [if_neg closed, if_neg (not_or.2 ⟨cj, ref⟩)]
    refine ⟨fun above => if_pos above, fun below => ?_, fun low high => ?_⟩
    · rw [if_neg (by omega), if_pos below]
    · rw [if_neg (by omega), if_neg (by omega)]

theorem flowReading_eq (ref : Check) (f : Int) (old : Reading) :
    flowReading ref f old = if ref = .fail then old.hold .fault else ⟨(max 0 (min 255 f)).toNat, .valid, 0⟩ := by
  rw [flowReading, clampInt_eq f (by decide)]

theorem Reading.mark_eq (r : Reading) :
    r.mark = if r.status = .valid ∨ r.status = .over ∨ r.status = .under then { r with status := .fault } else r := by
  unfold Reading.mark
  cases r.status <;> rfl

theorem markAll_get (p : PerZone Reading) (z : ZoneId) : (markAll p).get z = (p.get z).mark := PerZone.get_ofFn _ z

theorem Channel.isThermocouple_iff (ch : Channel) :
    ch.isThermocouple = true ↔ (∃ z, ch = .ct z) ∨ ∃ z, ch = .lt z := by
  cases ch <;> simp [Channel.isThermocouple]

/-! ### The checks (R59, R60) -/

/-- The CJ conversion: a failed check marks the thermocouple readings. -/
theorem Scanner.completeCj_eq (c : Scanner) (m : Int) :
    c.completeCj m = { c with
      cj := ⟨(max 0 (min 15000 m)).toNat, if 0 ≤ m ∧ m ≤ 700 then .valid else .fault, 0⟩
      cjCheck := if 0 ≤ m ∧ m ≤ 700 then .pass else .fail
      ct := if 0 ≤ m ∧ m ≤ 700 then c.ct else markAll c.ct
      lt := if 0 ≤ m ∧ m ≤ 700 then c.lt else markAll c.lt } := by
  rw [Scanner.completeCj, clampInt_eq m (by decide)]
  by_cases pass : 0 ≤ m ∧ m ≤ 700
  · simp [pass]
  · simp [pass, Scanner.markThermocouples]

/-- The REF conversion: a failed check marks the flow readings too. The clamp to 0..1000 leaves the judgement of the check. -/
theorem Scanner.completeRef_eq (c : Scanner) (m : Int) :
    c.completeRef m = { c with
      ref := ⟨(max 0 (min 1000 m)).toNat, if 480 ≤ m ∧ m ≤ 520 then .valid else .fault, 0⟩
      refCheck := if 480 ≤ m ∧ m ≤ 520 then .pass else .fail
      ct := if 480 ≤ m ∧ m ≤ 520 then c.ct else markAll c.ct
      lt := if 480 ≤ m ∧ m ≤ 520 then c.lt else markAll c.lt
      fp := if 480 ≤ m ∧ m ≤ 520 then c.fp else c.fp.mark
      fc := if 480 ≤ m ∧ m ≤ 520 then c.fc else c.fc.mark } := by
  have clamped : (480 ≤ clampInt 0 1000 m ∧ clampInt 0 1000 m ≤ 520) ↔ 480 ≤ m ∧ m ≤ 520 := by
    rw [clampInt_eq m (by decide)]
    omega
  simp only [Scanner.completeRef, clamped]
  rw [clampInt_eq m (by decide)]
  by_cases pass : 480 ≤ m ∧ m ≤ 520
  · simp [pass]
  · simp [pass, Scanner.markThermocouples]

/-- A check enters FAIL where it does not pass and was not in FAIL (R63). -/
theorem Check.entersFail_iff (old : Check) (pass : Prop) [Decidable pass] :
    (decide (old ≠ .fail) && decide ((if pass then Check.pass else .fail) = .fail)) = true ↔ ¬ pass ∧ old ≠ .fail := by
  by_cases h : pass <;> simp [h]

/-! ### What a completed thermocouple conversion does (R84, R85, R88, R89) -/

/-- A zone is judged: the station is configured, and the zone is in use. -/
theorem State.judged_iff (s : State) (z : ZoneId) :
    s.judged z = true ↔ s.sup.station ≠ .unconfigured ∧ (s.store.zones.get z).inUse = true := by
  simp [State.judged]

theorem tripCondition_iff (overLimit : Nat) (r : Reading) :
    tripCondition overLimit r = true ↔
      r.status = .openCircuit ∨ r.status = .over ∨ (r.status = .valid ∧ overLimit < r.value) := by
  unfold tripCondition
  cases r.status <;> simp

/-- A limit reading trips its zone. -/
def State.Trips (s : State) (z : ZoneId) (r : Reading) : Prop :=
  s.sup.station ≠ .unconfigured ∧ (s.store.zones.get z).inUse = true ∧ (s.zones.zones.get z).tripped = false
    ∧ (r.status = .openCircuit ∨ r.status = .over ∨ (r.status = .valid ∧ (s.store.zones.get z).overLimit < r.value))

theorem State.trips_iff (s : State) (z : ZoneId) (r : Reading) :
    s.Trips z r ↔ s.judged z = true ∧ (s.zones.zones.get z).tripped = false
      ∧ tripCondition (s.store.zones.get z).overLimit r = true := by
  rw [State.judged_iff, tripCondition_iff, and_assoc]
  rfl

/-- HOLD, once added, is among the stop causes, whether it was there or not. -/
theorem Loader.addCause_hold_causes (l : Loader) (established : Bool) :
    (l.addCause established .hold).causes = { l.causes with hold := true } := by
  rw [Loader.addCause_causes]
  split
  next has =>
    have hold : l.causes.hold = true := has
    rw [← hold]
  next => rfl

/-- A trip changes its zone, adds ZONE_TRIP, and holds a RUNNING or IDLE station. -/
theorem State.tripZone_eq (s : State) (z : ZoneId) :
    s.tripZone z = { s with
      zones := { s.zones with zones := s.zones.zones.set z (s.zones.zones.get z).trip }
      host := { s.host with reasons := s.host.reasons ||| reasonZoneTrip }
      sup := { s.sup with
        station := if s.sup.station = .running ∨ s.sup.station = .idle then .held else s.sup.station }
      loader := if s.sup.station = .running ∨ s.sup.station = .idle then s.loader.addCause s.gas.established .hold
        else s.loader } := by
  rw [State.tripZone, State.report_eq]
  by_cases works : s.sup.station = .running ∨ s.sup.station = .idle
  · simp only [State.raise_sup, State.setZoneState, State.setZones_sup, works, if_true]
    rfl
  · simp only [State.raise_sup, State.setZoneState, State.setZones_sup, works, if_false]
    rfl

theorem State.limitConverted_of_trips {s : State} {z : ZoneId} {r : Reading} (h : s.Trips z r) :
    s.limitConverted z r = s.tripZone z := if_pos ((s.trips_iff z r).1 h)

theorem State.limitConverted_of_not_trips {s : State} {z : ZoneId} {r : Reading} (h : ¬ s.Trips z r) :
    s.limitConverted z r = s := if_neg fun k => h ((s.trips_iff z r).2 k)

/-- The open hold is entered by an OPEN reading and ended by the third VALID one in a row. -/
theorem ZoneState.controlConverted_eq (v : ZoneState) (r : Reading) :
    v.controlConverted r = if r.status = .openCircuit then { v with openHold := true, recovery := 0 }
      else if v.openHold = false then v
      else if r.status ≠ .valid then { v with recovery := 0 }
      else if v.recovery < 2 then { v with recovery := v.recovery + 1 }
      else { v with openHold := false, recovery := 0 } := by
  have third : v.recovery + 1 < 3 ↔ v.recovery < 2 := by omega
  unfold ZoneState.controlConverted
  cases r.status <;> cases v.openHold <;> simp [third]

/-- The zone of a configured station takes the reading while in use, with TC_OPEN added on entry into open hold. -/
theorem State.controlConverted_eq (s : State) (z : ZoneId) (r : Reading) :
    s.controlConverted z r = { s with
      zones := if s.sup.station ≠ .unconfigured ∧ (s.store.zones.get z).inUse = true then
          { s.zones with zones := s.zones.zones.set z ((s.zones.zones.get z).controlConverted r) }
        else s.zones
      host := if (s.sup.station ≠ .unconfigured ∧ (s.store.zones.get z).inUse = true)
            ∧ (s.zones.zones.get z).openHold = false ∧ r.status = .openCircuit then
          { s.host with reasons := s.host.reasons ||| reasonTcOpen }
        else s.host } := by
  have entry : (!(s.zones.zones.get z).openHold && decide (r.status = .openCircuit)) = true
      ↔ (s.zones.zones.get z).openHold = false ∧ r.status = .openCircuit := by simp
  simp only [State.controlConverted, State.judged_iff, State.raiseIf, entry]
  by_cases judged : s.sup.station ≠ .unconfigured ∧ (s.store.zones.get z).inUse = true
  · by_cases enters : (s.zones.zones.get z).openHold = false ∧ r.status = .openCircuit
    · rw [if_pos judged, if_pos enters, if_pos judged, if_pos ⟨judged, enters⟩]
      rfl
    · rw [if_pos judged, if_neg enters, if_pos judged, if_neg fun h => enters h.2]
      rfl
  · rw [if_neg judged, if_neg judged, if_neg fun h => judged h.1]

/-! ### The row of each channel (R54, R55) -/

/-- The scanner's part of a control conversion: the reading, and the next slot. -/
def State.controlSlotEnded (s : State) (z : ZoneId) (m : Int) : State :=
  s.setScanner { s.scanner with
    ct := s.scanner.ct.set z (s.scanner.thermocoupleRead m (s.scanner.ct.get z))
    channel := Channel.next (.ct z)
    half := .settling
    openJudged := none }

/-- The scanner's part of a limit conversion: the reading, and the next slot. -/
def State.limitSlotEnded (s : State) (z : ZoneId) (m : Int) : State :=
  s.setScanner { s.scanner with
    lt := s.scanner.lt.set z (s.scanner.thermocoupleRead m (s.scanner.lt.get z))
    channel := Channel.next (.lt z)
    half := .settling
    openJudged := none }

section
variable {s : State} (m : Int)

theorem exec_controlConversion {z : ZoneId} (h : s.scanner.channel = .ct z) :
    exec (.conversionComplete m) s = .next ((s.controlSlotEnded z m).controlConverted z
      (s.scanner.thermocoupleRead m (s.scanner.ct.get z))) := by
  simp only [exec, execConversionComplete, State.conversionComplete, h, State.completeCt, Scanner.nextSlot,
    State.controlSlotEnded, Scanner.thermocoupleRead]

theorem exec_limitConversion {z : ZoneId} (h : s.scanner.channel = .lt z) :
    exec (.conversionComplete m) s = .next ((s.limitSlotEnded z m).limitConverted z
      (s.scanner.thermocoupleRead m (s.scanner.lt.get z))) := by
  simp only [exec, execConversionComplete, State.conversionComplete, h, State.completeLt, Scanner.nextSlot,
    State.limitSlotEnded, Scanner.thermocoupleRead]

theorem exec_cjConversion (h : s.scanner.channel = .cj) :
    exec (.conversionComplete m) s = .next { s with
      scanner := { s.scanner.completeCj m with channel := .fp, half := .settling, openJudged := none }
      host := { s.host with reasons := s.host.reasons |||
        (if ¬ (0 ≤ m ∧ m ≤ 700) ∧ s.scanner.cjCheck ≠ .fail then reasonScanFault else 0) } } := by
  simp only [exec, execConversionComplete, State.conversionComplete, h, State.raiseIf_eq, Scanner.nextSlot,
    Scanner.completeCj_eq, Check.entersFail_iff, Channel.next]
  rfl

theorem exec_refConversion (h : s.scanner.channel = .ref) :
    exec (.conversionComplete m) s = .next { s with
      scanner := { s.scanner.completeRef m with channel := .ct .z1, half := .settling, openJudged := none }
      host := { s.host with reasons := s.host.reasons |||
        (if ¬ (480 ≤ m ∧ m ≤ 520) ∧ s.scanner.refCheck ≠ .fail then reasonScanFault else 0) } } := by
  simp only [exec, execConversionComplete, State.conversionComplete, h, State.raiseIf_eq, Scanner.nextSlot,
    Scanner.completeRef_eq, Check.entersFail_iff, Channel.next]
  rfl

theorem exec_fpConversion (h : s.scanner.channel = .fp) :
    exec (.conversionComplete m) s = .next { s with scanner := { s.scanner with
      fp := flowReading s.scanner.refCheck m s.scanner.fp
      fpAcc := if s.timer.timer = .stopped then s.scanner.fpAcc
        else s.scanner.fpAcc.add (flowReading s.scanner.refCheck m s.scanner.fp).value
      channel := .fc
      half := .settling
      openJudged := none } } := by
  simp only [exec, execConversionComplete, State.conversionComplete, h, Scanner.nextSlot, Scanner.completeFp,
    State.timerRuns, decide_eq_true_eq, ite_not, Channel.next]
  rfl

theorem exec_fcConversion (h : s.scanner.channel = .fc) :
    exec (.conversionComplete m) s = .next { s with scanner := { s.scanner with
      fc := flowReading s.scanner.refCheck m s.scanner.fc
      fcAcc := if s.timer.timer = .stopped then s.scanner.fcAcc
        else s.scanner.fcAcc.add (flowReading s.scanner.refCheck m s.scanner.fc).value
      channel := .ref
      half := .settling
      openJudged := none } } := by
  simp only [exec, execConversionComplete, State.conversionComplete, h, Scanner.nextSlot, Scanner.completeFc,
    State.timerRuns, decide_eq_true_eq, ite_not, Channel.next]
  rfl

end

theorem exec_burnoutTest_thermocouple {s : State} (ohms : Nat)
    (h : (∃ z, s.scanner.channel = .ct z) ∨ ∃ z, s.scanner.channel = .lt z) (settling : s.scanner.half = .settling) :
    exec (.burnoutTest ohms) s = .next { s with
      scanner := { s.scanner with half := .converting, openJudged := some (decide (20000 < ohms)) } } :=
  congrArg (fun c => Host.Outcome.next (s.setScanner c)) (if_pos ⟨(Channel.isThermocouple_iff _).2 h, settling⟩)

/-- A burnout test of another channel, or in a converting half, is no event. -/
theorem exec_burnoutTest_elsewhere {s : State} (ohms : Nat)
    (h : ¬ ((∃ z, s.scanner.channel = .ct z) ∨ ∃ z, s.scanner.channel = .lt z) ∨ s.scanner.half = .converting) :
    exec (.burnoutTest ohms) s = .next s := by
  refine congrArg (fun c => Host.Outcome.next (s.setScanner c)) (if_neg fun ⟨thermocouple, settling⟩ => ?_)
  rcases h with other | converting
  · exact other ((Channel.isThermocouple_iff _).1 thermocouple)
  · cases settling.symm.trans converting

end Sys2Proof.Machine
end

section
/-! PROOFS. The statements about the scanner, trips and open holds (chapters 4 and 5). -/

namespace Sys2Proof.Machine

/-- Settles O45: the zone controller and the supervisor act on the reading exactly where it trips the zone. -/
theorem limitConversionsReadAndTrip : Obligations.LimitConversionsReadAndTrip := by
  intro s z m h c v cfg
  have read := c.thermocoupleRead_table m (c.lt.get z)
  by_cases trips : s.Trips z (c.thermocoupleRead m (c.lt.get z))
  · have act := State.limitConverted_of_trips (s := s.limitSlotEnded z m) trips
    rw [State.tripZone_eq] at act
    refine ⟨_, _, (exec_limitConversion m h).trans (congrArg _ act), ?_, read,
      ⟨fun _ => ⟨rfl, rfl, rfl, rfl, fun works => ?_⟩, fun k => absurd trips k⟩, rfl, rfl, rfl, rfl, rfl, rfl, rfl⟩
    · cases z <;> rfl
    · exact (congrArg Loader.causes (if_pos works)).trans (s.loader.addCause_hold_causes s.gas.established)
  · have act := State.limitConverted_of_not_trips (s := s.limitSlotEnded z m) trips
    refine ⟨_, _, (exec_limitConversion m h).trans (congrArg _ act), ?_, read,
      ⟨fun k => absurd k trips, fun _ => ⟨rfl, rfl, rfl, rfl⟩⟩, rfl, rfl, rfl, rfl, rfl, rfl, rfl⟩
    cases z <;> rfl

/-- Settles O46: the row is the reading, then the zone controller's two items. -/
theorem controlConversionsHoldAndRecover : Obligations.ControlConversionsHoldAndRecover := by
  intro s z m h c v judged old aged r w
  have read : c.thermocoupleRead m old = r := c.thermocoupleRead_eq m old
  have zone : v.controlConverted r = w := v.controlConverted_eq r
  refine ⟨Channel.next (.ct z), ?_, by cases z <;> rfl⟩
  rw [exec_controlConversion m h, State.controlConverted_eq, State.controlSlotEnded, read, ← zone]
  rfl

/-- Settles O47: the checks' rows, with the marks read zone by zone. -/
theorem checksMarkTheReadings : Obligations.ChecksMarkTheReadings := by
  intro s m c mark
  have marked : ∀ r, r.mark = mark r := Reading.mark_eq
  have markedIn : ∀ (pass : Prop) [Decidable pass] (p : PerZone Reading) (z : ZoneId),
      (if pass then p else markAll p).get z = if pass then p.get z else mark (p.get z) := fun pass _ p z => by
    rw [apply_ite (PerZone.get · z), markAll_get, marked]
  refine ⟨fun h => ?_, fun h => ?_⟩
  · intro pass
    refine ⟨_, exec_cjConversion m h, ?_⟩
    rw [Scanner.completeCj_eq]
    exact ⟨rfl, rfl, rfl, rfl, fun z => ⟨markedIn _ _ z, markedIn _ _ z⟩, rfl, rfl, rfl, rfl, rfl, rfl, rfl, rfl, rfl, rfl⟩
  · intro v pass
    refine ⟨_, exec_refConversion m h, ?_⟩
    rw [Scanner.completeRef_eq, marked, marked]
    exact ⟨rfl, rfl, rfl, rfl, fun z => ⟨markedIn _ _ z, markedIn _ _ z⟩, rfl, rfl, rfl, rfl, rfl, rfl, rfl, rfl, rfl, rfl⟩

/-- Settles O44: a flow row's reading is the flow reading of R64, and the accumulation takes it. -/
theorem burnoutTestsAndFlowConversions : Obligations.BurnoutTestsAndFlowConversions := by
  refine ⟨fun s ohms => ⟨exec_burnoutTest_thermocouple ohms, exec_burnoutTest_elsewhere ohms⟩, fun s m => ?_⟩
  intro c reading added
  have read : ∀ old, flowReading c.refCheck m old = reading old := flowReading_eq c.refCheck m
  refine ⟨fun h => ?_, fun h => ?_⟩
  · rw [exec_fpConversion m h, read]
    rfl
  · rw [exec_fcConversion m h, read]
    rfl

end Sys2Proof.Machine
end

section
/-! PROOFS. What keeps law L2 outside the boundaries: the duties and the fired counts change at boundaries alone, or fall to 0. -/

namespace Sys2Proof.Machine

/-! ### The invariant, with the half-cycles gated so far as a parameter -/

/-- The firing invariant with the first `i` half-cycles of the window gated: no zone has fired more than its pattern gives over
them (R80, R82). -/
structure State.FiringUpTo (s : State) (i : Nat) : Prop where
  timer : s.TimerInv
  running : ∀ z, (s.zones.zones.get z).dutyRunning ≤ s.n
  next : ∀ z, (s.zones.zones.get z).dutyNext ≤ s.n
  fired : s.timer.timer = .phased → ∀ z,
    (s.zones.zones.get z).fired ≤ (s.zones.zones.get z).dutyRunning * min i s.n / s.n
  outside : s.timer.timer ≠ .phased → ∀ z, (s.zones.zones.get z).fired = 0
  unconfigured : s.sup.station = .unconfigured →
    ∀ z, (s.zones.zones.get z).dutyRunning = 0 ∧ (s.zones.zones.get z).dutyNext = 0

theorem State.firingInv_iff (s : State) : s.FiringInv ↔ s.FiringUpTo (s.timer.windowCount + 1) :=
  ⟨fun ⟨timer, duties, fired, outside, unconfigured⟩ =>
    ⟨timer, fun z => (duties z).1, fun z => (duties z).2, fired, outside, unconfigured⟩,
  fun ⟨timer, running, next, fired, outside, unconfigured⟩ =>
    ⟨timer, fun z => ⟨running z, next z⟩, fired, outside, unconfigured⟩⟩

/-- Over more half-cycles the pattern gives no fewer. -/
theorem State.FiringUpTo.mono {s : State} {i j : Nat} (h : s.FiringUpTo i) (le : i ≤ j) : s.FiringUpTo j :=
  { h with
    fired := fun phased z =>
      (h.fired phased z).trans (Nat.div_le_div_right (Nat.mul_le_mul_left _ (min_le_min_right _ le))) }

/-- Outside a phased window nothing is gated, and the number of half-cycles does not matter. -/
theorem State.FiringUpTo.of_not_phased {s : State} {i : Nat} (h : s.FiringUpTo i) (out : s.timer.timer ≠ .phased) (j : Nat) :
    s.FiringUpTo j :=
  { h with fired := fun phased => absurd phased out }

/-- The running duty bounds what is fired in the whole window, and 0 what is fired outside one. -/
theorem State.FiringUpTo.fired_le_duty {s : State} {i : Nat} (h : s.FiringUpTo i) (z : ZoneId) :
    (s.zones.zones.get z).fired ≤ (s.zones.zones.get z).dutyRunning := by
  by_cases phased : s.timer.timer = .phased
  · calc (s.zones.zones.get z).fired
        ≤ (s.zones.zones.get z).dutyRunning * min i s.n / s.n := h.fired phased z
      _ ≤ (s.zones.zones.get z).dutyRunning * s.n / s.n :=
          Nat.div_le_div_right (Nat.mul_le_mul_left _ (Nat.min_le_right _ _))
      _ ≤ (s.zones.zones.get z).dutyRunning := Nat.div_le_of_le_mul (Nat.mul_comm _ _).le
  · exact (h.outside phased z).trans_le (Nat.zero_le _)

/-! ### What leaves the duties -/

/-- A zone keeps its running duty and its count; its next duty stays or is taken back to 0, as at a trip (R85). -/
structure ZoneState.KeepsDuty (v w : ZoneState) : Prop where
  running : w.dutyRunning = v.dutyRunning
  fired : w.fired = v.fired
  next : w.dutyNext = v.dutyNext ∨ w.dutyNext = 0

theorem ZoneState.KeepsDuty.rfl {v : ZoneState} : v.KeepsDuty v := ⟨Eq.refl _, Eq.refl _, .inl (Eq.refl _)⟩

theorem ZoneState.KeepsDuty.trans {v w x : ZoneState} (h : v.KeepsDuty w) (k : w.KeepsDuty x) : v.KeepsDuty x :=
  ⟨k.running.trans h.running, k.fired.trans h.fired, k.next.elim (fun e => h.next.imp e.trans e.trans) .inr⟩

/-- From `s` to `t` every zone keeps its duty, and the timer's state, its count and the configuration stay. -/
structure State.KeepsDuties (s t : State) : Prop where
  timer : t.timer.timer = s.timer.timer
  count : t.timer.windowCount = s.timer.windowCount
  store : t.sup.store = s.sup.store
  unconfigured : t.sup.station = .unconfigured ↔ s.sup.station = .unconfigured
  zones : ∀ z, (s.zones.zones.get z).KeepsDuty (t.zones.zones.get z)

theorem State.KeepsDuties.rfl {s : State} : s.KeepsDuties s :=
  ⟨Eq.refl _, Eq.refl _, Eq.refl _, Iff.rfl, fun _ => .rfl⟩

theorem State.KeepsDuties.trans {s t u : State} (h : s.KeepsDuties t) (k : t.KeepsDuties u) : s.KeepsDuties u :=
  ⟨k.timer.trans h.timer, k.count.trans h.count, k.store.trans h.store, k.unconfigured.trans h.unconfigured,
    fun z => (h.zones z).trans (k.zones z)⟩

/-- Zones and supervisor stay, and of the timer its state and its count. -/
theorem State.KeepsDuties.of_eq {s t : State} (timer : t.timer.timer = s.timer.timer)
    (count : t.timer.windowCount = s.timer.windowCount) (sup : t.sup = s.sup) (zones : t.zones = s.zones) :
    s.KeepsDuties t :=
  ⟨timer, count, by rw [sup], by rw [sup], fun _ => zones ▸ .rfl⟩

/-- A state that runs on under the same timer and zones. -/
theorem State.RunsOn.keepsDuties {s t : State} (r : s.RunsOn t) (timer : t.timer = s.timer) (zones : t.zones = s.zones) :
    s.KeepsDuties t :=
  ⟨by rw [timer], by rw [timer], r.store, r.unconfigured, fun _ => zones ▸ .rfl⟩

theorem State.SameElsewhere.keepsDuties {s t : State} (h : s.SameElsewhere t) : s.KeepsDuties t :=
  ⟨by rw [h.timer], by rw [h.timer], h.store, h.unconfigured, fun _ => h.zones ▸ .rfl⟩

/-- A map over the zones that keeps each zone's duty. -/
theorem State.mapZones_keepsDuties (s : State) {f : ZoneId → ZoneState → ZoneState}
    (h : ∀ z (v : ZoneState), v.KeepsDuty (f z v)) : s.KeepsDuties (s.mapZones f) :=
  { (State.KeepsDuties.rfl : s.KeepsDuties s) with
    zones := fun z => by
      simp only [State.mapZones, State.setZones_zones, PerZone.get_ofFn]
      exact h z _ }

/-- One zone's state is replaced by one that keeps its duty. -/
theorem State.setZoneState_keepsDuties (s : State) {z : ZoneId} {v : ZoneState} (h : (s.zones.zones.get z).KeepsDuty v) :
    s.KeepsDuties (s.setZoneState z v) :=
  { (State.KeepsDuties.rfl : s.KeepsDuties s) with
    zones := fun w => by
      simp only [State.setZoneState, State.setZones_zones, PerZone.get_set]
      split
      next same => exact same ▸ h
      next => exact .rfl }

theorem State.KeepsDuties.timerInv {s t : State} (k : s.KeepsDuties t) (h : s.TimerInv) : t.TimerInv := by
  unfold State.TimerInv
  rw [k.timer]
  exact k.unconfigured.trans h

theorem State.KeepsDuties.n_eq {s t : State} (k : s.KeepsDuties t) : t.n = s.n := by
  simp only [State.n, State.store, k.store]

theorem State.KeepsDuties.firingUpTo {s t : State} {i : Nat} (k : s.KeepsDuties t) (h : s.FiringUpTo i) : t.FiringUpTo i where
  timer := k.timerInv h.timer
  running := fun z => by
    rw [k.n_eq, (k.zones z).running]
    exact h.running z
  next := fun z => by
    rw [k.n_eq]
    rcases (k.zones z).next with same | zero
    · exact same ▸ h.next z
    · exact zero ▸ Nat.zero_le _
  fired := fun phased z => by
    rw [k.n_eq, (k.zones z).running, (k.zones z).fired]
    exact h.fired (k.timer ▸ phased) z
  outside := fun out z => by
    rw [(k.zones z).fired]
    exact h.outside (k.timer ▸ out) z
  unconfigured := fun station z => by
    obtain ⟨running, next⟩ := h.unconfigured (k.unconfigured.1 station) z
    exact ⟨(k.zones z).running.trans running, (k.zones z).next.elim (·.trans next) id⟩

theorem State.KeepsDuties.firingInv {s t : State} (k : s.KeepsDuties t) (h : s.FiringInv) : t.FiringInv := by
  rw [State.firingInv_iff] at h ⊢
  rw [k.count]
  exact k.firingUpTo h

/-! ### The bank line -/

theorem State.ownSent_keepsDuties (s : State) : s.KeepsDuties s.ownSent := .of_eq rfl rfl rfl rfl

theorem State.slotWork_keepsDuties (s : State) : s.KeepsDuties s.slotWork := by
  unfold State.slotWork
  dsimp only
  split <;> exact .of_eq rfl rfl rfl rfl

theorem State.raiseIf_keepsDuties (s : State) (c : Bool) (r : BitVec 16) : s.KeepsDuties (s.raiseIf c r) :=
  (s.raiseIf_same c r).keepsDuties

theorem State.acceptAnnounce_keepsDuties (s : State) (i : StationNo) (a : Announced) : s.KeepsDuties (s.acceptAnnounce i a) := by
  have judge : ∀ (u : State) (e : Bool), u.KeepsDuties (u.judgePhase i a e) := fun u e => by
    unfold State.judgePhase
    split <;> exact .of_eq rfl rfl rfl rfl
  have record : ∀ (u : State) (e : Bool), u.KeepsDuties (u.recordListening i a e) := fun u e => by
    unfold State.recordListening
    split <;> exact .of_eq rfl rfl rfl rfl
  have entered : ∀ (b : BankLink) (c d : Bool),
      s.KeepsDuties (((s.setBank b).raiseIf c reasonPeerChange).raiseIf d reasonConfigMismatch) := fun b c d =>
    State.KeepsDuties.trans (t := s.setBank b) (.of_eq rfl rfl rfl rfl)
      ((State.raiseIf_keepsDuties _ _ _).trans (State.raiseIf_keepsDuties _ _ _))
  unfold State.acceptAnnounce
  dsimp only
  split
  · exact (entered _ _ _).trans (judge _ _)
  · exact (entered _ _ _).trans (record _ _)

theorem State.announceFrom_keepsDuties (s : State) (i : StationNo) (data : List Byte) :
    s.KeepsDuties (s.announceFrom i data) := by
  unfold State.announceFrom
  split
  · exact .rfl
  split
  · exact .of_eq rfl rfl rfl rfl
  split
  · exact s.acceptAnnounce_keepsDuties _ _
  · exact .rfl

theorem State.leaveFrom_keepsDuties (s : State) (i : StationNo) (data : List Byte) : s.KeepsDuties (s.leaveFrom i data) := by
  unfold State.leaveFrom
  split
  · split
    · exact .of_eq rfl rfl rfl rfl
    · unfold State.acceptLeave
      split
      · exact .of_eq (by simp) (by simp) (by simp) (by simp)
      · exact .of_eq rfl rfl rfl rfl
  · exact .rfl

theorem State.frameArrives_keepsDuties (s : State) (f : CanFrame) : s.KeepsDuties (s.frameArrives f) := by
  unfold State.frameArrives
  split
  · exact .rfl
  split
  · exact .rfl
  · split
    · exact .of_eq rfl rfl rfl rfl
    · exact s.announceFrom_keepsDuties _ _
  · split
    · exact .of_eq rfl rfl rfl rfl
    · exact s.leaveFrom_keepsDuties _ _

/-! ### Scanner, loader and HALT line -/

/-- A control conversion changes of a zone the open hold and the recovery count (R88, R89). -/
theorem ZoneState.controlConverted_keepsDuty (v : ZoneState) (r : Reading) : v.KeepsDuty (v.controlConverted r) := by
  rw [v.controlConverted_eq]
  split_ifs <;> exact ⟨Eq.refl _, Eq.refl _, .inl (Eq.refl _)⟩

/-- A trip takes the next duty back to 0 (R85). -/
theorem ZoneState.trip_keepsDuty (v : ZoneState) : v.KeepsDuty v.trip := ⟨Eq.refl _, Eq.refl _, .inr (Eq.refl _)⟩

theorem State.conversionComplete_keepsDuties (s : State) (m : Int) : s.KeepsDuties (s.conversionComplete m) := by
  have reading : ∀ c : Scanner, s.KeepsDuties (s.setScanner c) := fun c => .of_eq rfl rfl rfl rfl
  have control : ∀ (u : State) (z : ZoneId) (r : Reading), u.KeepsDuties (u.controlConverted z r) := fun u z r => by
    unfold State.controlConverted
    split
    · exact (u.setZoneState_keepsDuties (ZoneState.controlConverted_keepsDuty _ r)).trans (State.raiseIf_keepsDuties _ _ _)
    · exact .rfl
  have limit : ∀ (u : State) (z : ZoneId) (r : Reading), u.KeepsDuties (u.limitConverted z r) := fun u z r => by
    unfold State.limitConverted
    split
    · refine State.KeepsDuties.trans (u.setZoneState_keepsDuties (z := z) (ZoneState.trip_keepsDuty _)) ?_
      exact ((State.raise_runsOn _ _).trans (State.report_runsOn _)).keepsDuties (by simp) (by simp)
    · exact .rfl
  unfold State.conversionComplete
  split
  · exact (reading _).trans (control _ _ _)
  · exact (reading _).trans (limit _ _ _)
  · exact (reading _).trans (State.raiseIf_keepsDuties _ _ _)
  · exact reading _
  · exact reading _
  · exact (reading _).trans (State.raiseIf_keepsDuties _ _ _)

theorem State.motionTick_keepsDuties (s : State) : s.KeepsDuties s.motionTick := by
  have steps : s.tickSteps.timer = s.timer ∧ s.tickSteps.zones = s.zones := by
    unfold State.tickSteps
    dsimp only
    split <;> simp [State.loaderStalled]
  refine s.motionTick_runsOn.keepsDuties ?_ ?_
  all_goals
    unfold State.motionTick
    dsimp only
    split
  exacts [steps.1, steps.1, steps.2, steps.2]

theorem State.halt_keepsDuties {s : State} (h : s.sup.station ≠ .unconfigured) : s.KeepsDuties s.halt := by
  refine (State.halt_runsOn h).keepsDuties ?_ ?_
  all_goals
    unfold State.halt
    dsimp only
    split <;> rfl

theorem execHaltAssert_keepsDuties {s t : State} (h : execHaltAssert s = .next t) : s.KeepsDuties t := by
  have line : s.KeepsDuties (s.setSup { s.sup with haltAsserted := true }) :=
    { (State.KeepsDuties.rfl : s.KeepsDuties s) with }
  cases h
  split
  · exact .rfl
  · dsimp only
    split
    · exact line
    · rename_i configured
      exact line.trans (State.halt_keepsDuties configured)

/-! ### The host's commands -/

/-- A command keeps the duties when its act does. -/
theorem State.command_keepsDuties {s : State} {code : Byte} {act : State → State} (h : ∀ u : State, u.KeepsDuties (act u)) :
    s.KeepsDuties (s.command code act) := by
  unfold State.command
  split
  · exact State.KeepsDuties.trans (t := s.endTransaction) (.of_eq rfl rfl rfl rfl) (h _)
  · exact .rfl

theorem State.reply_keepsDuties (s : State) (r : ResultCode) (data : List Byte) : s.KeepsDuties (s.reply r data) :=
  .of_eq rfl rfl rfl rfl

theorem State.beginTransaction_keepsDuties (s : State) : s.KeepsDuties s.beginTransaction := by
  unfold State.beginTransaction
  split <;> exact .of_eq rfl rfl rfl rfl

theorem State.clockByte_keepsDuties (s : State) (b : Byte) : s.KeepsDuties (s.clockByte b) := by
  unfold State.clockByte
  split <;> exact .of_eq rfl rfl rfl rfl

/-- RESET_TRIP clears a latch, which no duty depends on (R87). -/
theorem execResetTrip_keepsDuties {s t : State} (h : execResetTrip s = .next t) : s.KeepsDuties t := by
  cases h
  refine State.command_keepsDuties fun u => ?_
  dsimp only
  split
  · exact u.reply_keepsDuties _ _
  split
  · exact u.reply_keepsDuties _ _
  split
  · refine State.KeepsDuties.trans ?_ (State.reply_keepsDuties _ _ _)
    exact u.setZoneState_keepsDuties ⟨rfl, rfl, .inl rfl⟩
  · exact u.reply_keepsDuties _ _

/-- CLEAR_HALT moves a configured station (R164). -/
theorem execClearHalt_keepsDuties {s t : State} (h : execClearHalt s = .next t) : s.KeepsDuties t := by
  cases h
  refine State.command_keepsDuties fun u => ?_
  split
  · rename_i halted
    refine State.KeepsDuties.trans (t := u.clearHaltToHeld) ?_ (State.reply_keepsDuties _ _ _)
    exact { (State.KeepsDuties.rfl : u.KeepsDuties u) with
      unconfigured := iff_of_false (show StationState.held ≠ .unconfigured by decide) (by simp [halted.1]) }
  · exact u.reply_keepsDuties _ _

/-- The host's commands that act on the host port or the executor alone: reads, segment commands, reasons and mask. -/
theorem exec_keepsDuties_of_hostOrExecutor {c : Instr}
    (hc : c ∈ [Instr.nop, .append, .amend, .urgent, .readStatus, .readZone, .readLoader, .readPeer, .readQueue, .readOutcome,
      .clearReasons, .setMask, .setLowMark]) {s t : State} (h : exec c s = .next t) : s.KeepsDuties t := by
  simp only [List.mem_cons, List.not_mem_nil, or_false] at hc
  rcases hc with rfl | rfl | rfl | rfl | rfl | rfl | rfl | rfl | rfl | rfl | rfl | rfl | rfl
  all_goals
    cases h
    refine State.command_keepsDuties fun u => ?_
    repeat' split
    all_goals exact .of_eq rfl rfl rfl rfl

end Sys2Proof.Machine
end

section
/-! PROOFS. Every step keeps law L2: the duties that the control position fixes are at most N, a window start begins with nothing
fired, and each half-cycle fires by the pattern. -/

namespace Sys2Proof.Machine

/-! ### The duties of the control position (R75, R77, R80) -/

theorem demandOf_le (kp : Nat) (e : Int) (i ff : Nat) : demandOf kp e i ff ≤ 1000 := by
  rw [demandOf, clampInt_eq _ (by decide)]
  omega

/-- A demand of at most 1000 thousandths asks for at most the rated power. -/
theorem ceilDiv_demand_le {d rated : Nat} (h : d ≤ 1000) : ceilDiv (d * rated) 1000 ≤ rated := by
  have : d * rated ≤ 1000 * rated := Nat.mul_le_mul_right _ h
  unfold ceilDiv
  omega

theorem State.controlLaw_powerDemand_le {s : State} {z : ZoneId} (v : ZoneState) (h : (s.store.zones.get z).inUse = true) :
    (s.controlLaw z v).powerDemand ≤ (s.store.zones.get z).rated := by
  unfold State.controlLaw
  dsimp only
  rw [if_pos h]
  split
  · exact Nat.zero_le _
  · split
    · exact ceilDiv_demand_le (demandOf_le _ _ _ _)
    · exact Nat.zero_le _

/-- A zone is granted at most its rated power: it claims only in use. -/
theorem State.afterLaw_zoneGrant_le_rated (s : State) (z : ZoneId) :
    s.afterLaw.zoneGrant z ≤ (s.store.zones.get z).rated := by
  by_cases claims : s.afterLaw.zoneClaims z = true
  · calc s.afterLaw.zoneGrant z
        ≤ (s.afterLaw.zones.zones.get z).powerDemand := s.afterLaw.zoneGrant_le z
      _ = (s.controlLaw z (s.zones.zones.get z)).powerDemand := by rw [s.afterLaw_zone]
      _ ≤ (s.store.zones.get z).rated := State.controlLaw_powerDemand_le _ ((s.afterLaw_claims_iff z).1 claims).1
  · rw [State.zoneGrant_of_not_claims claims]
    exact Nat.zero_le _

/-- The control position fixes a duty of at most N (R80). -/
theorem State.controlWork_dutyNext_le (s : State) (z : ZoneId) : (s.controlWork.zones.zones.get z).dutyNext ≤ s.n := by
  have duty : (s.controlWork.zones.zones.get z).dutyNext
      = if s.afterLaw.dutiesZero then 0 else s.afterLaw.zoneGrant z * s.n / (s.store.zones.get z).rated :=
    congrArg ZoneState.dutyNext (PerZone.get_ofFn _ z)
  rw [duty]
  split
  · exact Nat.zero_le _
  · exact Nat.div_le_of_le_mul (Nat.mul_le_mul_right _ (s.afterLaw_zoneGrant_le_rated z))

/-! ### The work of a position in a phased window -/

/-- From `s` to `t` the timer's state and its count stay, and in a phased window the firing invariant is kept, whatever the number
of half-cycles gated. -/
structure State.KeepsWindow (s t : State) : Prop where
  timer : t.timer.timer = s.timer.timer
  count : t.timer.windowCount = s.timer.windowCount
  firing : s.timer.timer = .phased → ∀ i, s.FiringUpTo i → t.FiringUpTo i

theorem State.KeepsWindow.rfl {s : State} : s.KeepsWindow s := ⟨Eq.refl _, Eq.refl _, fun _ _ => id⟩

theorem State.KeepsWindow.trans {s t u : State} (h : s.KeepsWindow t) (k : t.KeepsWindow u) : s.KeepsWindow u :=
  ⟨k.timer.trans h.timer, k.count.trans h.count, fun phased i =>
    k.firing (h.timer.trans phased) i ∘ h.firing phased i⟩

theorem State.KeepsDuties.keepsWindow {s t : State} (h : s.KeepsDuties t) : s.KeepsWindow t :=
  ⟨h.timer, h.count, fun _ _ => h.firingUpTo⟩

/-- The control position fixes duties of a configured station, as a phased window has one (R4). -/
theorem State.controlWork_keepsWindow (s : State) : s.KeepsWindow s.controlWork where
  timer := rfl
  count := rfl
  firing := fun phased i h => {
    timer := h.timer
    running := fun z => (s.controlWork_sameFiring z).dutyRunning ▸ h.running z
    next := s.controlWork_dutyNext_le
    fired := fun _ z => by
      rw [(s.controlWork_sameFiring z).dutyRunning, (s.controlWork_sameFiring z).fired]
      exact h.fired phased z
    outside := fun out => absurd phased out
    unconfigured := fun station => by
      have stopped := h.timer.1 station
      rw [phased] at stopped
      cases stopped }

theorem State.sequenceWork_keepsWindow (s : State) : s.KeepsWindow s.sequenceWork := s.sequenceWork_same.keepsDuties.keepsWindow

theorem State.shareWork_keepsWindow (s : State) : s.KeepsWindow s.shareWork :=
  (State.KeepsDuties.of_eq (by simp) (by simp) (by simp) (by simp)).keepsWindow

theorem State.raisePosition_keepsWindow (s : State) : s.KeepsWindow s.raisePosition := by
  unfold State.raisePosition
  dsimp only
  split
  · exact s.slotWork_keepsDuties.keepsWindow
  split
  · exact s.sequenceWork_keepsWindow
  split
  · exact s.shareWork_keepsWindow
  split
  · exact s.controlWork_keepsWindow
  · exact .rfl

theorem State.doIf_keepsWindow {s : State} {f : State → State} (c : Bool) (h : s.KeepsWindow (f s)) :
    s.KeepsWindow (s.doIf c f) := by
  cases c
  · exact .rfl
  · exact h

theorem State.cutOffPositions_keepsWindow (s : State) (length : Nat) : s.KeepsWindow (s.cutOffPositions length) :=
  ((State.doIf_keepsWindow _ s.sequenceWork_keepsWindow).trans (State.doIf_keepsWindow _ (State.shareWork_keepsWindow _))).trans
    (State.doIf_keepsWindow _ (State.controlWork_keepsWindow _))

/-! ### Window starts -/

/-- After the hand-over the next duties run, and nothing has been fired (R81). -/
theorem State.WindowWork.firing {s t : State} {i : Nat} (w : s.WindowWork t) (h : s.FiringUpTo i) : t.FiringUpTo 0 := by
  have zone : ∀ z, t.zones.zones.get z = (s.zones.zones.get z).handOver := fun z => by
    rw [w.zones]
    simp [State.handOverDuties, State.mapZones]
  have n : t.n = s.n := by simp only [State.n, State.store, w.runsOn.store]
  have duty : ∀ z, (t.zones.zones.get z).dutyRunning = (s.zones.zones.get z).dutyNext
      ∧ (t.zones.zones.get z).dutyNext = (s.zones.zones.get z).dutyNext := fun z => by
    rw [zone]
    exact ⟨rfl, rfl⟩
  have none : ∀ z, (t.zones.zones.get z).fired = 0 := fun z => by
    rw [zone]
    rfl
  exact {
    timer := w.runsOn.keepsBounds.timer h.timer
    running := fun z => by
      rw [n, (duty z).1]
      exact h.next z
    next := fun z => by
      rw [n, (duty z).2]
      exact h.next z
    fired := fun _ z => (none z).trans_le (Nat.zero_le _)
    outside := fun _ z => none z
    unconfigured := fun station z => by
      obtain ⟨-, next⟩ := h.unconfigured (w.runsOn.unconfigured.1 station) z
      exact ⟨(duty z).1.trans next, (duty z).2.trans next⟩ }

theorem State.windowStartWork_firing {s : State} {i : Nat} (length : Nat) (h : s.FiringUpTo i) :
    (s.windowStartWork length).FiringUpTo (s.windowStartWork length).timer.windowCount := by
  have work := (s.nextRound length).windowBlocks_windowWork
  rw [s.windowStartWork_eq, work.timer]
  exact work.firing (i := i) ⟨h.timer, h.running, h.next, h.fired, h.outside, h.unconfigured⟩

/-- The first window begins with nothing fired, as nothing was before it (R9, R82). -/
theorem State.firstWindowStartWork_firing {s : State} {i : Nat} (round : Nat) (h : s.FiringUpTo i)
    (listening : s.timer.timer = .listening) :
    (s.firstWindowStartWork round).FiringUpTo (s.firstWindowStartWork round).timer.windowCount := by
  have configured : s.sup.station ≠ .unconfigured := fun station => by
    have stopped := h.timer.1 station
    rw [listening] at stopped
    cases stopped
  have begun : (s.setTimer (s.timer.firstWindowStart round)).FiringUpTo 0 := {
    timer := iff_of_false configured (show TimerState.phased ≠ .stopped by decide)
    running := h.running
    next := h.next
    fired := fun _ z => (h.outside (by simp [listening]) z).trans_le (Nat.zero_le _)
    outside := fun out => absurd rfl out
    unconfigured := fun station => absurd station configured }
  rw [State.firstWindowStartWork_timer]
  exact (State.windowBlocks_windowWork _).firing begun

/-! ### Boundaries -/

theorem State.countUp_firing {s : State} {i : Nat} (h : s.FiringUpTo i) : s.countUp.FiringUpTo i :=
  ⟨h.timer, h.running, h.next, h.fired, h.outside, h.unconfigured⟩

theorem State.endListening_firing {s : State} {i : Nat} (h : s.FiringUpTo i) : s.endListening.FiringUpTo i := by
  unfold State.endListening
  split
  · exact ⟨h.timer, h.running, h.next, h.fired, h.outside, h.unconfigured⟩
  · exact h

theorem State.endListening_timer (s : State) : s.endListening.timer.timer = s.timer.timer := by
  unfold State.endListening
  split <;> rfl

theorem State.listeningBoundary_firing {s : State} {i : Nat} (h : s.FiringUpTo i) (listening : s.timer.timer = .listening) :
    s.listeningBoundary.FiringUpTo s.listeningBoundary.timer.windowCount := by
  have counted := State.endListening_firing (State.countUp_firing h)
  have still : s.countUp.endListening.timer.timer = .listening := (State.endListening_timer _).trans listening
  have idle := counted.of_not_phased (by simp [still])
  unfold State.listeningBoundary
  dsimp only
  split
  · split
    · exact State.firstWindowStartWork_firing _ counted still
    · exact idle _
  · exact idle _

theorem State.phasedBoundary_firing {s : State} (h : s.FiringUpTo (s.timer.windowCount + 1)) (phased : s.timer.timer = .phased) :
    s.phasedBoundary.FiringUpTo s.phasedBoundary.timer.windowCount := by
  have counted := State.countUp_firing h
  unfold State.phasedBoundary
  dsimp only
  split
  · exact State.windowStartWork_firing _ ((s.countUp.cutOffPositions_keepsWindow _).firing phased _ counted)
  · have position := s.countUp.raisePosition_keepsWindow
    rw [position.count]
    exact position.firing phased _ counted

/-- A boundary's work leaves the half-cycle that begins at it to be decided: as many half-cycles are gated as the count says. -/
theorem State.boundaryWork_firing {s : State} (h : s.FiringInv) :
    s.boundaryWork.FiringUpTo s.boundaryWork.timer.windowCount := by
  rw [State.firingInv_iff] at h
  unfold State.boundaryWork
  split
  next stopped => exact h.of_not_phased (by simp [stopped]) _
  next listening => exact State.listeningBoundary_firing h listening
  next phased => exact State.phasedBoundary_firing h phased

/-- A boundary that gates nothing keeps the invariant all the more (R83). -/
theorem State.boundaryWork_firingInv {s : State} (h : s.FiringInv) : s.boundaryWork.FiringInv :=
  (State.firingInv_iff _).2 ((State.boundaryWork_firing h).mono (Nat.le_succ _))

/-- A half-cycle is fired where the pattern rises, and nowhere else (R82). -/
theorem State.fireZone_fired_le {s : State} {i : Nat} {z : ZoneId} {v : ZoneState}
    (h : v.fired ≤ v.dutyRunning * min i s.n / s.n) :
    (s.fireZone (i + 1) z v).fired ≤ v.dutyRunning * min (i + 1) s.n / s.n := by
  unfold State.fireZone
  split
  · rename_i fires
    obtain ⟨inWindow, rises⟩ : i + 1 ≤ s.n ∧ v.dutyRunning * i / s.n < v.dutyRunning * (i + 1) / s.n := by
      simpa [firesAt, patternExtra] using fires.1
    rw [min_eq_left (Nat.le_of_succ_le inWindow)] at h
    rw [min_eq_left inWindow]
    exact Nat.succ_le_of_lt (h.trans_lt rises)
  · exact h.trans (Nat.div_le_div_right (Nat.mul_le_mul_left _ (min_le_min_right _ (Nat.le_succ _))))

theorem State.fire_firing {s : State} (h : s.FiringUpTo s.timer.windowCount) (phased : s.timer.timer = .phased) :
    s.fire.FiringUpTo (s.timer.windowCount + 1) := by
  have duty : ∀ z, (s.fire.zones.zones.get z).dutyRunning = (s.zones.zones.get z).dutyRunning
      ∧ (s.fire.zones.zones.get z).dutyNext = (s.zones.zones.get z).dutyNext := fun z => by
    obtain ⟨gate, fired, zone⟩ := s.fire_zone z
    rw [zone]
    exact ⟨rfl, rfl⟩
  have fired : ∀ z, (s.fire.zones.zones.get z).fired
      = (s.fireZone (s.timer.windowCount + 1) z (s.zones.zones.get z)).fired := fun z =>
    congrArg ZoneState.fired (PerZone.get_ofFn _ z)
  exact {
    timer := h.timer
    running := fun z => (duty z).1 ▸ h.running z
    next := fun z => (duty z).2 ▸ h.next z
    fired := fun _ z => by
      rw [fired, (duty z).1]
      exact State.fireZone_fired_le (h.fired phased z)
    outside := fun out => absurd phased out
    unconfigured := fun station z => by
      rw [(duty z).1, (duty z).2]
      exact h.unconfigured station z }

theorem State.boundary_firingInv {s : State} (h : s.FiringInv) : s.boundary.FiringInv := by
  unfold State.boundary
  dsimp only
  split
  next phased => exact (State.firingInv_iff _).2 (State.fire_firing (State.boundaryWork_firing h) phased)
  next => exact State.boundaryWork_firingInv h

theorem State.boundaries_firingInv : ∀ (k : Nat) {s : State}, s.FiringInv → (State.boundaries k s).FiringInv
  | 0, _, h => h
  | k + 1, _, h => State.boundaries_firingInv k (State.boundary_firingInv h)

/-- A position's row is a boundary, or nothing. -/
theorem State.boundary_if_firingInv {s : State} (c : Bool) (h : s.FiringInv) : (if c then s.boundary else s).FiringInv := by
  cases c
  · exact h
  · exact State.boundary_firingInv h

/-! ### The mains -/

theorem State.setMains_keepsDuties (s : State) (m : MainsState) : s.KeepsDuties (s.setTimer { s.timer with mains := m }) :=
  .of_eq rfl rfl rfl rfl

theorem State.zeroCross_firingInv {s : State} (e : Nat) (h : s.FiringInv) : (s.zeroCross e).FiringInv := by
  have restored := (s.setMains_keepsDuties .present).firingInv h
  unfold State.zeroCross
  split
  · exact h
  split
  · dsimp only
    split
    · exact restored
    · exact State.boundary_firingInv restored
  · split
    · exact State.boundary_firingInv h
    split
    · exact h
    · exact State.boundaries_firingInv _ h

theorem State.stopFiring_keepsDuties (s : State) : s.KeepsDuties s.stopFiring :=
  s.mapZones_keepsDuties fun _ _ => ⟨rfl, rfl, .inl rfl⟩

theorem State.loseMains_firingInv {s : State} (h : s.FiringInv) : s.loseMains.FiringInv := by
  have lost : s.KeepsDuties ((s.setTimer { s.timer with mains := .lost }).raise reasonMainsLost) := .of_eq rfl rfl rfl rfl
  unfold State.loseMains
  split
  · exact (State.stopFiring_keepsDuties _).firingInv
      (State.boundaryWork_firingInv (State.boundaryWork_firingInv (State.boundaryWork_firingInv (lost.firingInv h))))
  · exact h

theorem State.substitute_firingInv {s : State} (h : s.FiringInv) : s.substitute.FiringInv := by
  unfold State.substitute
  split
  · exact State.boundary_firingInv h
  · exact h

/-! ### Configuration, START, RESTART and hard reset -/

/-- A command keeps the firing invariant when its act does. -/
theorem State.command_firingInv {s : State} {code : Byte} {act : State → State}
    (act_firingInv : ∀ u : State, u.FiringInv → (act u).FiringInv) (h : s.FiringInv) : (s.command code act).FiringInv := by
  unfold State.command
  split
  · exact act_firingInv _ (State.KeepsDuties.firingInv (.of_eq rfl rfl rfl rfl) h)
  · exact h

theorem State.reply_firingInv {s : State} (r : ResultCode) (data : List Byte) (h : s.FiringInv) : (s.reply r data).FiringInv :=
  (s.reply_keepsDuties r data).firingInv h

/-- With duties and counts of 0 the invariant asks nothing of N. -/
theorem State.firingInv_of_zero {s : State} (timer : s.TimerInv)
    (zero : ∀ z, (s.zones.zones.get z).dutyRunning = 0 ∧ (s.zones.zones.get z).dutyNext = 0
      ∧ (s.zones.zones.get z).fired = 0) : s.FiringInv :=
  (State.firingInv_iff s).2 {
    timer
    running := fun z => (zero z).1 ▸ Nat.zero_le _
    next := fun z => (zero z).2.1 ▸ Nat.zero_le _
    fired := fun _ z => (zero z).2.2 ▸ Nat.zero_le _
    outside := fun _ z => (zero z).2.2
    unconfigured := fun _ z => ⟨(zero z).1, (zero z).2.1⟩ }

/-- An UNCONFIGURED station has duties and counts of 0. -/
theorem State.FiringInv.zero {s : State} (h : s.FiringInv) (station : s.sup.station = .unconfigured) (z : ZoneId) :
    (s.zones.zones.get z).dutyRunning = 0 ∧ (s.zones.zones.get z).dutyNext = 0 ∧ (s.zones.zones.get z).fired = 0 := by
  obtain ⟨timer, -, -, outside, unconfigured⟩ := h
  obtain ⟨running, next⟩ := unconfigured station z
  exact ⟨running, next, outside (by simp [timer.1 station]) z⟩

/-- The mains frequency, and N with it, is configured where no duty runs (R159). -/
theorem State.configure_firingInv {s : State} (r : ResultCode) (c : Store) (echo : List Byte) (h : s.FiringInv) :
    (s.configure r c echo).FiringInv := by
  unfold State.configure
  split
  · rename_i station
    exact State.reply_firingInv _ _ (State.firingInv_of_zero (s := s.setStore c) h.1 (h.zero station))
  · exact State.reply_firingInv _ _ h

/-- START finds every duty 0, and fixes none (R161). -/
theorem State.begin_firingInv {s : State} (h : s.FiringInv) (station : s.sup.station = .unconfigured) : s.begin.FiringInv := by
  have zones : s.begin.zones = s.zones := by
    unfold State.begin
    dsimp only
    split
    · unfold State.halt
      dsimp only
      split <;> rfl
    · rfl
  refine State.firingInv_of_zero (s.begin_keepsBounds.timer h.1) fun z => ?_
  rw [zones]
  exact h.zero station z

theorem execStart_firingInv {s t : State} (e : execStart s = .next t) (h : s.FiringInv) : t.FiringInv := by
  cases e
  refine State.command_firingInv (fun u hu => ?_) h
  split
  · rename_i station
    split
    · exact State.reply_firingInv _ _ hu
    · exact State.reply_firingInv _ _ (State.begin_firingInv hu station)
  · exact State.reply_firingInv _ _ hu

/-- RESTART and hard reset return the zones to duties and counts of 0 (R73). -/
theorem State.firingInv_of_reset {s : State} (timer : s.TimerInv) (zones : s.zones = ZoneControl.reset) : s.FiringInv :=
  State.firingInv_of_zero timer fun z => by
    rw [zones]
    simp [ZoneControl.reset, ZoneState.reset]

/-! ### Every command -/

/-- Every command keeps the firing invariant. -/
theorem exec_firingInv (c : Instr) {s t : State} (e : exec c s = .next t) (h : s.FiringInv) : t.FiringInv := by
  cases c with
  | hardReset straps => cases e; exact State.firingInv_of_reset ((s.hardReset_keepsBounds straps).timer h.1) rfl
  | restart =>
    cases e
    exact State.command_firingInv (fun u hu =>
      State.reply_firingInv _ _ (State.firingInv_of_reset (u.restart_keepsBounds.timer hu.1) rfl)) h
  | start => exact execStart_firingInv e h
  | setBank | setGas | setLoader =>
    cases e
    exact State.command_firingInv (fun u hu => State.configure_firingInv _ _ _ hu) h
  | setZone | setBand =>
    cases e
    refine State.command_firingInv (fun u hu => ?_) h
    dsimp only
    split
    · exact State.reply_firingInv _ _ hu
    · exact State.configure_firingInv _ _ _ hu
  | nop | append | amend | urgent | readStatus | readZone | readLoader | readPeer | readQueue | readOutcome | clearReasons
  | setMask | setLowMark => exact (exec_keepsDuties_of_hostOrExecutor (by decide) e).firingInv h
  | resetTrip => exact (execResetTrip_keepsDuties e).firingInv h
  | clearHalt => exact (execClearHalt_keepsDuties e).firingInv h
  | zeroCrossEdge elapsed => cases e; exact State.zeroCross_firingInv elapsed h
  | mainsLost => cases e; exact State.loseMains_firingInv h
  | substituteBoundary => cases e; exact State.substitute_firingInv h
  | listeningEnd | firstWindowStart | windowStart | ownSlot | sequencePosition | sharePosition | controlPosition =>
    cases e
    exact State.boundary_if_firingInv _ h
  | announceArrival frame | leaveArrival frame => cases e; exact (s.frameArrives_keepsDuties frame).firingInv h
  | conversionComplete measured => cases e; exact (s.conversionComplete_keepsDuties measured).firingInv h
  | motionTick => cases e; exact s.motionTick_keepsDuties.firingInv h
  | speedUpdate =>
    cases e
    split
    · exact s.motionTick_keepsDuties.firingInv h
    · exact h
  | haltAssert => exact (execHaltAssert_keepsDuties e).firingInv h
  | announceSent =>
    cases e
    split
    · exact s.ownSent_keepsDuties.firingInv h
    · exact h
  | haltRelease =>
    cases e
    exact State.KeepsDuties.firingInv { (State.KeepsDuties.rfl : s.KeepsDuties s) with } h
  | transmitAttemptFail => cases e; exact h
  | leaveSent | burnoutTest | homeSwitchRelease => cases e; exact State.KeepsDuties.firingInv (.of_eq rfl rfl rfl rfl) h
  | transactionBegin => cases e; exact s.beginTransaction_keepsDuties.firingInv h
  | byteTime b => cases e; exact (s.clockByte_keepsDuties b).firingInv h
  | frameError | unknownCommand | chipSelectReleaseDiscarding | homeSwitchActivation =>
    cases e
    split
    all_goals exact State.KeepsDuties.firingInv (.of_eq rfl rfl rfl rfl) h

/-- A step keeps it: it idles, or runs the front command on the state with the queue's rest. -/
theorem step_firingInv {s t : State} (e : step s = .next t) (h : s.FiringInv) : t.FiringInv := by
  unfold step at e
  split at e
  · cases e
    exact h
  · rename_i c rest _
    exact exec_firingInv c e (State.KeepsDuties.firingInv (t := s.setPending rest) (.of_eq rfl rfl rfl rfl) h)

/-- Settles O57: the invariant is kept by every command, and bounds the fired count by the running duty. -/
theorem stepsKeepTheFiringWithinTheDuty : Obligations.StepsKeepTheFiringWithinTheDuty := by
  intro s t inv h
  have kept := step_firingInv h inv
  exact ⟨kept, ((State.firingInv_iff t).1 kept).fired_le_duty⟩

end Sys2Proof.Machine
end

section
/-! PROOFS. The statement about the spread pattern. -/

namespace Sys2Proof.Machine

/-- The positions of a period, from the first up to the `k`-th, that carry the extra unit of a figure. -/
def extraPositions (d p k : Nat) : List Nat := (List.range k).filter fun i => patternExtra d (i + 1) p

theorem patternExtra_succ (d i p : Nat) : patternExtra d (i + 1) p = true ↔ d * i / p < d * (i + 1) / p := by
  simp [patternExtra]

/-- A figure of at most the period rises by at most one a position. -/
theorem spread_succ_le {d p : Nat} (hp : 0 < p) (h : d ≤ p) (k : Nat) : d * (k + 1) / p ≤ d * k / p + 1 :=
  calc d * (k + 1) / p
      ≤ (d * k + p) / p := Nat.div_le_div_right (by rw [Nat.mul_succ]; exact Nat.add_le_add_left h _)
    _ = d * k / p + 1 := Nat.add_div_right _ hp

/-- The count over the first positions rises by one exactly where the figure's share does. -/
theorem length_extraPositions {d p : Nat} (hp : 0 < p) (h : d ≤ p) (k : Nat) :
    (extraPositions d p k).length = d * k / p := by
  induction k with
  | zero => simp [extraPositions]
  | succ k ih =>
    have step : extraPositions d p (k + 1) = extraPositions d p k ++ if patternExtra d (k + 1) p then [k] else [] := by
      simp [extraPositions, List.range_succ, List.filter_cons]
    have atMostOne := spread_succ_le hp h k
    have noLess : d * k / p ≤ d * (k + 1) / p := Nat.div_le_div_right (Nat.mul_le_mul_left _ (Nat.le_succ k))
    rw [step, List.length_append, ih]
    by_cases rises : patternExtra d (k + 1) p = true
    · have := (patternExtra_succ d k p).1 rises
      rw [if_pos rises, List.length_singleton]
      omega
    · have := mt (patternExtra_succ d k p).2 rises
      rw [if_neg rises, List.length_nil]
      omega

/-- The last position carries a unit of every figure above 0. -/
theorem patternExtra_last {d p : Nat} (hp : 0 < p) (hd : 0 < d) : patternExtra d p p = true := by
  obtain ⟨q, rfl⟩ : ∃ q, p = q + 1 := ⟨p - 1, by omega⟩
  rw [patternExtra_succ, Nat.mul_div_cancel _ hp, Nat.div_lt_iff_lt_mul hp]
  exact Nat.mul_lt_mul_of_pos_left (Nat.lt_succ_self q) hd

/-- Settles O60: the count over the first positions, at the whole period and at each shorter stretch. -/
theorem patternsSpreadExactly : Obligations.PatternsSpreadExactly := by
  intro d p hp h
  refine ⟨?_, fun hd => patternExtra_last hp hd, fun k _ => length_extraPositions hp h k⟩
  exact (length_extraPositions hp h p).trans (Nat.mul_div_cancel d hp)

end Sys2Proof.Machine
end

section
/-! PROOFS. The statement about the control law at the control position. -/

namespace Sys2Proof.Machine

/-! ### The terms of the law (R75 to R77) -/

theorem controlError_eq (setpoint reading : Nat) :
    controlError setpoint reading = max (-2000) (min 2000 ((setpoint : Int) - reading)) := clampInt_eq _ (by decide)

theorem updatedIntegral_held (ki : Nat) (e : Int) (i : Nat) : updatedIntegral ki e true i = i := rfl

theorem updatedIntegral_updated (ki : Nat) (e : Int) (i : Nat) :
    (updatedIntegral ki e false i : Int) = max 0 (min 1000 ((i : Int) + Int.tdiv (ki * e) 100)) := by
  simp only [updatedIntegral, clampInt_eq _ (show (0 : Int) ≤ 1000 by decide)]
  exact Int.toNat_of_nonneg (le_max_left _ _)

theorem demandOf_eq (kp : Nat) (e : Int) (i ff : Nat) :
    (demandOf kp e i ff : Int) = max 0 (min 1000 (Int.tdiv (kp * e) 10 + i + ff)) := by
  rw [demandOf, clampInt_eq _ (by decide)]
  exact Int.toNat_of_nonneg (le_max_left _ _)

/-- The boat moves inward within the zone's span: feed-forward applies (R76). -/
def State.InSpan (s : State) (z : ZoneId) : Prop :=
  ∃ x, s.loader.position = some x ∧ (s.store.zones.get z).spanStart ≤ x ∧ x < (s.store.zones.get z).spanEnd
    ∧ s.loader.direction = .inward
    ∧ (s.loader.state = .moving ∨ s.loader.state = .stopping ∨ s.loader.state = .dwell)

theorem State.feedForward_of_inSpan {s : State} {z : ZoneId} (h : s.InSpan z) :
    s.feedForward z = (s.store.zones.get z).feedForward := by
  obtain ⟨x, known, above, below, inward, state⟩ := h
  simp only [State.feedForward, known]
  exact if_pos ⟨inward, state, above, below⟩

theorem State.feedForward_of_not_inSpan {s : State} {z : ZoneId} (h : ¬ s.InSpan z) : s.feedForward z = 0 := by
  unfold State.feedForward
  dsimp only
  split
  · rename_i x known
    exact if_neg fun ⟨inward, state, above, below⟩ => h ⟨x, known, above, below, inward, state⟩
  · rfl

/-! ### The law by the zone's case (R74) -/

/-- A zone that is tripped, in open hold or without a VALID reading is not controlled. -/
def State.Blocked (s : State) (z : ZoneId) : Prop :=
  (s.zones.zones.get z).tripped = true ∨ (s.zones.zones.get z).openHold = true ∨ (s.scanner.ct.get z).status ≠ .valid

theorem State.zoneReadable_iff (s : State) (z : ZoneId) : s.zoneReadable z = true ↔ ¬ s.Blocked z := by
  simp [State.zoneReadable, State.Blocked, Reading.isValid, and_assoc]

/-- The integral is held: a rising error under curtailment, HALTED, or the mains lost (R75). -/
def State.integralHeld (s : State) (v : ZoneState) (e : Int) : Bool :=
  (v.curtailed && decide (0 < e)) || decide (s.sup.station = .halted) || decide (s.timer.mains = .lost)

theorem State.integralHeld_iff (s : State) (v : ZoneState) (e : Int) :
    s.integralHeld v e = true ↔ (v.curtailed = true ∧ 0 < e) ∨ s.sup.station = .halted ∨ s.timer.mains = .lost := by
  simp [State.integralHeld, or_assoc]

/-- What the law finds a zone's class to be (R77). -/
def RampZone.zoneClass (r : RampZone) : ZoneClass := if r.state = .rising then .rising else .firm

section
variable {s : State} {z : ZoneId} {v : ZoneState}

theorem State.controlLaw_of_not_inUse (h : (s.store.zones.get z).inUse = false) : s.controlLaw z v = v :=
  if_neg (by simp [h])

theorem State.controlLaw_of_noSetpoint (h : (s.store.zones.get z).inUse = true)
    (absent : (s.ramp.zones.get z).setpoint = none) :
    s.controlLaw z v = { v with
      zoneClass := (s.ramp.zones.get z).zoneClass, integral := 0, demand := 0, powerDemand := 0 } := by
  simp only [State.controlLaw, h, if_true, absent]
  rfl

theorem State.controlLaw_of_blocked (h : (s.store.zones.get z).inUse = true)
    (given : (s.ramp.zones.get z).setpoint ≠ none) (blocked : s.Blocked z) :
    s.controlLaw z v = { v with zoneClass := (s.ramp.zones.get z).zoneClass, demand := 0, powerDemand := 0 } := by
  obtain ⟨p, setpoint⟩ := Option.ne_none_iff_exists'.1 given
  have unread : ¬ s.zoneReadable z = true := fun read => (s.zoneReadable_iff z).1 read blocked
  simp only [State.controlLaw, h, if_true, setpoint, unread]
  rfl

theorem State.controlLaw_of_controlled {p : Nat} (h : (s.store.zones.get z).inUse = true)
    (setpoint : (s.ramp.zones.get z).setpoint = some p) (free : ¬ s.Blocked z) :
    (s.controlLaw z v).integral = updatedIntegral (s.store.zones.get z).ki (controlError p (s.scanner.ct.get z).value)
        (s.integralHeld v (controlError p (s.scanner.ct.get z).value)) v.integral
      ∧ (s.controlLaw z v).demand = demandOf (s.store.zones.get z).kp (controlError p (s.scanner.ct.get z).value)
          (s.controlLaw z v).integral (s.feedForward z)
      ∧ (s.controlLaw z v).powerDemand = ceilDiv ((s.controlLaw z v).demand * (s.store.zones.get z).rated) 1000 := by
  have read := (s.zoneReadable_iff z).2 free
  unfold State.controlLaw
  rw [if_pos h, setpoint]
  dsimp only
  rw [if_pos read]
  exact ⟨rfl, rfl, rfl⟩

theorem State.controlLaw_zoneClass (h : (s.store.zones.get z).inUse = true) :
    (s.controlLaw z v).zoneClass = (s.ramp.zones.get z).zoneClass := by
  simp only [State.controlLaw, h, if_true]
  split
  · rfl
  · split <;> rfl

end

/-! ### The power figures (R78) -/

/-- The figure of a class is the sum over the zones after the split, which leaves demand and class. -/
theorem State.classDemand_mapZones (s : State) (k : ZoneClass) :
    (s.mapZones s.controlLaw).classDemand k = (ZoneId.list.map fun z =>
      if (s.store.zones.get z).inUse = true ∧ (s.zoneSplit z).zoneClass = k then (s.zoneSplit z).powerDemand else 0).sum := by
  simp only [State.classDemand, State.mapZones, State.setZones_zones, PerZone.get_ofFn]
  rfl

/-- Settles O41: the zones after the control position are those of the control law, case by case. -/
theorem controlPositionAppliesTheLaw : Obligations.ControlPositionAppliesTheLaw := by
  intro s h
  have zone : ∀ z, (PerZone.ofFn s.zoneSplit).get z = s.zoneSplit z := PerZone.get_ofFn _
  refine ⟨_, exec_controlPosition h, fun z => ?_, ?_, ?_⟩
  · intro v w cfg blocked
    have law : w.integral = (s.controlLaw z v).integral ∧ w.demand = (s.controlLaw z v).demand
        ∧ w.powerDemand = (s.controlLaw z v).powerDemand ∧ w.zoneClass = (s.controlLaw z v).zoneClass := by
      rw [show w = s.zoneSplit z from zone z]
      exact ⟨rfl, rfl, rfl, rfl⟩
    clear_value w
    obtain ⟨integral, demand, powerDemand, zoneClass⟩ := law
    rw [integral, demand, powerDemand, zoneClass]
    refine ⟨fun out => ?_, fun inUse => State.controlLaw_zoneClass inUse, fun inUse absent => ?_,
      fun inUse given stop => ?_, fun p inUse setpoint free => ?_⟩
    · rw [State.controlLaw_of_not_inUse out]
      exact ⟨rfl, rfl, rfl, rfl⟩
    · rw [State.controlLaw_of_noSetpoint inUse absent]
      exact ⟨rfl, rfl, rfl⟩
    · rw [State.controlLaw_of_blocked inUse given stop]
      exact ⟨rfl, rfl, rfl⟩
    · obtain ⟨integral, demand, powerDemand⟩ := State.controlLaw_of_controlled (v := v) inUse setpoint free
      rw [controlError_eq] at integral demand
      intro e inSpan
      refine ⟨fun hold => ?_, fun run => ?_, fun inside => ?_, fun outside => ?_, powerDemand⟩
      · rw [integral, (s.integralHeld_iff v e).2 hold, updatedIntegral_held]
      · rw [integral, Bool.eq_false_iff.2 (mt (s.integralHeld_iff v e).1 run)]
        exact updatedIntegral_updated _ _ _
      · rw [demand, State.feedForward_of_inSpan inside]
        exact demandOf_eq _ _ _ _
      · rw [demand, State.feedForward_of_not_inSpan outside, demandOf_eq, Nat.cast_zero, add_zero]
  · simp only [zone]
    exact s.classDemand_mapZones .firm
  · simp only [zone]
    exact s.classDemand_mapZones .rising

end Sys2Proof.Machine
end

section
/-! PROOFS. The statement about the duties and flows that a window start hands over, with the purge volume it counts. -/

namespace Sys2Proof.Machine

/-! ### The gas part through the work of a window start (R115, R116) -/

@[simp] theorem State.rampStep_gas (s : State) : s.rampStep.gas = s.gas := by
  unfold State.rampStep
  split
  · dsimp only
    split
    · split <;> rfl
    · rfl
  · rfl

@[simp] theorem State.countWindow_gas (s : State) : s.countWindow.gas = s.gas := by
  unfold State.countWindow
  split
  · split
    · rfl
    · split <;> rfl
  · rfl

@[simp] theorem State.dwellWork_gas (s : State) : s.dwellWork.gas = s.gas := by
  unfold State.dwellWork
  dsimp only
  split <;> simp [State.loaderStalled]

/-- The curtain's judgement is none of the part's business. -/
@[simp] theorem State.judgeCurtain_part (s : State) : s.judgeCurtain.gas.part = s.gas.part := by
  have lost : s.loseCurtain.gas.part = s.gas.part := by simp [State.loseCurtain]
  unfold State.judgeCurtain
  dsimp only
  split
  · split <;> rfl
  · rfl
  · rfl
  · split
    · rfl
    · exact lost

theorem State.doIf_part {s : State} {f : State → State} (c : Bool) (h : (f s).gas.part = s.gas.part) :
    (s.doIf c f).gas.part = s.gas.part := by
  cases c
  · rfl
  · exact h

/-- In any order, the open work leaves the part. -/
theorem State.orderedWork_part (o : WindowOrder) (s : State) : (s.orderedWork o).gas.part = s.gas.part := by
  have works : ∀ (u : State) (ramp curtain count : Bool),
      (((u.doIf ramp State.rampStep).doIf curtain State.judgeCurtain).doIf count State.countWindow).gas.part = u.gas.part :=
    fun u ramp curtain count =>
      (State.doIf_part count (by simp)).trans ((State.doIf_part curtain (by simp)).trans (State.doIf_part ramp (by simp)))
  unfold State.orderedWork
  dsimp only
  rw [works, State.dwellWork_gas, works]

theorem State.openOrderWork_part (s : State) : s.openOrderWork.gas.part = s.gas.part := by
  obtain ⟨o, k, h⟩ := s.openOrderWork_is_ordered
  rw [h]
  exact s.orderedWork_part o

theorem State.judgeFlow_part (s : State) : s.judgeFlow.gas.part = s.gas.part := by
  obtain ⟨n, b, c, h⟩ := s.judgeFlow_eq
  rw [h, State.raiseIf_gas]
  rfl

/-- The part's volume after a window of a length with an average purge flow: a window counts when its flows were commanded for
this part, and the station is not HALTED (R115, log entry 28). -/
def Gas.volumeAfter (g : Gas) (station : StationState) (average length : Nat) : Nat :=
  if g.part.current = true ∧ g.part.complete = false ∧ g.running.partFlow = true ∧ g.takenInWindow = false
      ∧ station ≠ .halted then
    g.part.volume + average * length
  else g.part.volume

/-- The part with a volume, complete from its target on (R116). -/
def GasPart.withVolume (p : GasPart) (volume : Nat) : GasPart :=
  { p with volume := volume, complete := p.complete || (p.current && decide (p.target ≤ volume)) }

theorem State.windowCountsForGas_iff (s : State) : s.windowCountsForGas = true ↔
    s.gas.part.current = true ∧ s.gas.part.complete = false ∧ s.gas.running.partFlow = true ∧ s.gas.takenInWindow = false
      ∧ s.sup.station ≠ .halted := by
  simp [State.windowCountsForGas, and_assoc]

theorem State.countVolume_part (s : State) :
    s.countVolume.gas.part
      = s.gas.part.withVolume (s.gas.volumeAfter s.sup.station s.scanner.lastFp s.timer.lastLength) := by
  simp only [State.countVolume, State.windowCountsForGas_iff]
  rfl

/-- The ended window is counted with its own average and length. -/
theorem State.windowBlocks_part (s : State) :
    s.windowBlocks.gas.part = s.gas.part.withVolume
      (s.gas.volumeAfter s.sup.station s.windowBlocks.scanner.lastFp s.timer.lastLength) := by
  have scanner : s.bankWindowStart.handOverDuties.scanner = s.scanner := by
    simp [State.handOverDuties, State.mapZones, State.bankWindowStart]
  have gas : s.bankWindowStart.gas = s.gas := by simp [State.bankWindowStart]
  have timer : s.bankWindowStart.timer = s.timer := by simp [State.bankWindowStart]
  have sup : s.bankWindowStart.sup = s.sup := by simp [State.bankWindowStart]
  rw [s.windowBlocks_windowWork.scanner]
  calc s.windowBlocks.gas.part
      = s.beforeOpenOrder.openOrderWork.gas.part := by rw [s.windowBlocks_eq]; rfl
    _ = (s.bankWindowStart.handOverDuties.setScanner s.scanner.closeWindow).countVolume.gas.part := by
        rw [State.openOrderWork_part, State.beforeOpenOrder, scanner, State.judgeFlow_part]
    _ = _ := by
        rw [State.countVolume_part, ← gas, ← timer, ← sup]
        rfl

/-! ### The first half-cycle of a window (R81, R82) -/

/-- The first half-cycle carries a unit of the full duty alone. -/
theorem firesAt_first {n : Nat} (hn : 0 < n) (d : Nat) : firesAt n d 1 = true ↔ n ≤ d := by
  simp [firesAt, patternExtra, Nat.div_pos_iff, hn, Nat.one_le_iff_ne_zero, hn.ne']

theorem State.contactorClosed_iff (s : State) (z : ZoneId) : s.contactorClosed z = true ↔
    s.sup.station ≠ .unconfigured ∧ (s.store.zones.get z).inUse = true ∧ (s.zones.zones.get z).tripped = false := by
  simp [State.contactorClosed, and_assoc]

/-- A zone of `s` fires the first half-cycle of the window that begins. -/
def State.firesFirst (s : State) (z : ZoneId) : Bool :=
  decide (s.n ≤ (s.zones.zones.get z).dutyNext ∧ s.sup.station ≠ .unconfigured ∧ (s.store.zones.get z).inUse = true
    ∧ (s.zones.zones.get z).tripped = false)

/-- A zone after the hand-over and the first half-cycle's firing decision. -/
def State.firstFired (s : State) (z : ZoneId) : ZoneState :=
  { (s.zones.zones.get z).handOver with
    gate := s.firesFirst z
    fired := if s.firesFirst z then 1 else 0 }

theorem State.WindowWork.fire_zones {s t : State} (w : s.WindowWork t) (count : s.timer.windowCount = 0) :
    t.fire.zones = { s.zones with zones := PerZone.ofFn s.firstFired } := by
  have handed : ∀ z, t.zones.zones.get z = (s.zones.zones.get z).handOver := fun z => by
    rw [w.zones]
    exact PerZone.get_ofFn _ z
  have store : t.store = s.store := w.runsOn.store
  have n : t.n = s.n := congrArg Store.halfCycles store
  have decides : ∀ z, (firesAt t.n (s.zones.zones.get z).handOver.dutyRunning 1 = true
      ∧ (s.zones.zones.get z).handOver.firingStopped = false ∧ t.contactorClosed z = true)
      ↔ s.firesFirst z = true := fun z => by
    have positive : 0 < s.n := by
      rcases s.n_cases with h | h <;> omega
    rw [t.contactorClosed_iff, handed, store, n, firesAt_first positive, ne_eq, w.runsOn.unconfigured]
    simp [State.firesFirst, ZoneState.handOver]
  have fired : (fun z => t.fireZone (t.timer.windowCount + 1) z (t.zones.zones.get z)) = s.firstFired := funext fun z => by
    rw [w.timer, count, handed, State.fireZone, State.firstFired]
    by_cases fires : s.firesFirst z = true
    · rw [if_pos ((decides z).2 fires), fires]
      rfl
    · rw [if_neg (mt (decides z).1 fires), Bool.eq_false_iff.2 fires]
      rfl
  have zones : t.zones = s.handOverDuties.zones := w.zones
  show ZoneControl.mk (PerZone.ofFn fun z => t.fireZone (t.timer.windowCount + 1) z (t.zones.zones.get z))
    t.zones.powerFirm t.zones.powerExtra = _
  rw [fired, zones]
  rfl

/-! ### The window start -/

theorem State.atWindowEnd_scanner (s : State) : s.atWindowEnd.scanner = s.scanner :=
  State.atWindowEnd_keeps State.scanner (fun u => u.sequenceWork_same.scanner) (fun u => by rw [u.shareWork_eq]) (fun _ => rfl) s

/-- Settles O26: the window start is the window work of the state after the cut-off positions, with the first half-cycle fired. -/
theorem windowStartHandsOverDutiesAndFlows : Obligations.WindowStartHandsOverDutiesAndFlows := by
  intro s h p
  have store : p.store = s.store := s.atWindowEnd_cutOffKeeps.store
  have scanner : p.scanner = s.scanner := s.atWindowEnd_scanner
  have row : exec .windowStart s = .next (p.nextRound s.endCount).windowBlocks.fire := by
    rw [exec_windowStart_of_ends h, State.boundary_ends h, State.windowStartWork_eq]
  clear_value p
  have n : s.n = p.n := congrArg Store.halfCycles store.symm
  let w := p.nextRound s.endCount
  have work := w.windowBlocks_windowWork
  obtain ⟨running, taken⟩ := w.windowBlocks_flows
  refine ⟨w.windowBlocks.fire, row, ?_, running, work.next, taken, ?_, w.windowBlocks_part⟩
  · rw [work.fire_zones rfl, n, ← store]
    rfl
  · rw [← scanner]
    exact work.scanner

end Sys2Proof.Machine
end

section
/-! PROOFS. The statement about RESET_TRIP and CLEAR_HALT. -/

namespace Sys2Proof.Machine

/-! ### A stop cause in place of another (R132, R134) -/

/-- A cause that leaves a set with another cause in it, DWELL apart, changes the set alone. -/
theorem Loader.removeCause_of_other (e : Bool) {k : StopCause} {l : Loader} (other : (l.causes.put k false).isEmpty = false)
    (hk : k ≠ .dwell) : l.removeCause e k = { l with causes := l.causes.put k false } := by
  unfold Loader.removeCause
  split
  · cases state : l.state
    case atRest => exact Loader.motionStart_of_cause e other
    case dwell => exact if_neg (by simp [other])
    all_goals rfl
  · rename_i has
    rw [StopCauses.put_of_has (by simpa using has)]

/-- A cause that enters changes the set alone where the loader neither runs nor waits for the curtain. -/
theorem Loader.addCause_of_idle (e : Bool) (k : StopCause) {l : Loader} (homing : l.state ≠ .homing)
    (moving : l.state ≠ .moving) (waiting : l.state ≠ .waitCurtain) : l.addCause e k = { l with causes := l.causes.put k true } := by
  unfold Loader.addCause
  split
  · rename_i has
    rw [StopCauses.put_of_has has]
  · cases state : l.state
    case homing => exact absurd state homing
    case moving => exact absurd state moving
    case waitCurtain => exact absurd state waiting
    all_goals rfl

/-- HOLD enters and HALT leaves: the loader after CLEAR_HALT (R164). -/
def Loader.haltToHold (e : Bool) (l : Loader) : Loader := (l.addCause e .hold).removeCause e .halt

theorem Loader.haltToHold_eq (e : Bool) (l : Loader) :
    l.haltToHold e = { l.addCause e .hold with causes := { l.causes with hold := true, halt := false } } := by
  have held : (l.addCause e .hold).causes = { l.causes with hold := true } := l.addCause_hold_causes e
  have other : ((l.addCause e .hold).causes.put .halt false).isEmpty = false := by
    rw [held]
    rfl
  rw [Loader.haltToHold, Loader.removeCause_of_other e other (by decide), held]
  rfl

theorem Loader.haltToHold_of_idle (e : Bool) {l : Loader} (homing : l.state ≠ .homing) (moving : l.state ≠ .moving)
    (waiting : l.state ≠ .waitCurtain) :
    l.haltToHold e = { l with causes := { l.causes with hold := true, halt := false } } := by
  rw [l.haltToHold_eq, Loader.addCause_of_idle e .hold homing moving waiting]

/-- A loader with HALT among its causes neither runs nor waits for the curtain. -/
theorem Loader.StopInv.idle_of_halt {l : Loader} (h : l.StopInv) (halt : l.causes.halt = true) :
    l.state ≠ .homing ∧ l.state ≠ .moving ∧ l.state ≠ .waitCurtain := by
  have full : ¬ (l.state = .homing ∨ l.state = .moving ∨ l.state = .waitCurtain) := fun state =>
    absurd (StopCauses.not_has_of_isEmpty .halt (h.isEmpty state)) (by simpa [StopCauses.has] using halt)
  simpa only [not_or] using full

/-! ### The commands -/

theorem State.tripClearable_iff (s : State) (z : ZoneId) : s.tripClearable z = true ↔
    (s.scanner.lt.get z).status = .valid ∧ (s.scanner.lt.get z).value + 100 ≤ (s.store.zones.get z).overLimit := by
  simp [State.tripClearable, Reading.isValid]

/-- RESET_TRIP of a zone clears its latch, refuses, or has nothing to clear (R87). -/
theorem exec_resetTrip {s : State} {z : ZoneId} (taken : s.Taken 0x50) (index : byteAt s.host.buffer 2 = z.index) :
    exec .resetTrip s = .next (
      if (s.zones.zones.get z).tripped = false then s.answered 0x50 .ok []
      else if s.tripClearable z then
        ({ s with zones := { s.zones with
          zones := s.zones.zones.set z { s.zones.zones.get z with tripped := false } } } : State).answered 0x50 .ok []
      else s.answered 0x50 .badState []) := by
  have code : s.host.buffer.getD 0 0 = 0x50 := taken.2.2
  have named : ZoneId.ofIndex? (byteAt s.endTransaction.host.buffer 2) = some z := by
    rw [State.endTransaction_buffer, index, ZoneId.ofIndex_index]
  refine congrArg Host.Outcome.next ((State.command_of_taken _ taken).trans ?_)
  dsimp only
  rw [named]
  refine if_congr Iff.rfl (State.reply_endTransaction code _ _) (if_congr Iff.rfl ?_ (State.reply_endTransaction code _ _))
  exact State.reply_of_host code _ _ rfl

/-- CLEAR_HALT in HALTED with the line released (R164). -/
theorem exec_clearHalt_of_halted {s : State} (taken : s.Taken 0x51) (halted : s.sup.station = .halted)
    (released : s.sup.haltAsserted = false) :
    exec .clearHalt s = .next (({ s with
      sup := { s.sup with station := .held }
      loader := s.loader.haltToHold s.gas.established } : State).answered 0x51 .ok []) := by
  refine congrArg Host.Outcome.next ((State.command_of_taken _ taken).trans ?_)
  exact (if_pos ⟨halted, released⟩).trans (State.reply_of_host taken.2.2 _ _ rfl)

theorem exec_clearHalt_of_refused {s : State} (taken : s.Taken 0x51)
    (h : s.sup.station ≠ .halted ∨ s.sup.haltAsserted = true) :
    exec .clearHalt s = .next (s.answered 0x51 .badState []) := by
  refine congrArg Host.Outcome.next ((State.command_of_taken _ taken).trans ?_)
  refine (if_neg fun ⟨halted, released⟩ => ?_).trans (State.reply_endTransaction taken.2.2 _ _)
  exact h.elim (absurd halted) fun asserted => by simp [asserted] at released

/-- Settles O17: the three answers of RESET_TRIP, and the loader's change of causes at CLEAR_HALT. -/
theorem resetTripAndClearHalt : Obligations.ResetTripAndClearHalt := by
  refine ⟨fun s z taken index => ?_, fun s taken halted released => ?_, fun s taken h => exec_clearHalt_of_refused taken h⟩
  · rw [exec_resetTrip taken index]
    refine ⟨fun tripped cool => ?_, fun tripped warm => ?_, fun untripped => ?_⟩
    · rw [if_neg (by simp [tripped]), if_pos ((s.tripClearable_iff z).2 cool)]
    · rw [if_neg (by simp [tripped]), if_neg (mt (s.tripClearable_iff z).1 warm)]
    · rw [if_pos untripped]
  · obtain ⟨position, part, -, motion⟩ := s.loader.addCause_keeps s.gas.established .hold
    have eq := s.loader.haltToHold_eq s.gas.established
    refine ⟨_, exec_clearHalt_of_halted taken halted released, ?_, ?_, ?_, ?_,
      Loader.haltToHold_of_idle s.gas.established, fun causes stop => ?_⟩
    · rw [eq]
    · rw [eq]
      exact position
    · rw [eq]
      exact part
    · rw [eq]
      exact motion
    · obtain ⟨-, halt_iff, -, -⟩ := causes
      obtain ⟨homing, moving, waiting⟩ := stop.idle_of_halt (halt_iff.2 halted)
      exact Loader.haltToHold_of_idle _ homing moving waiting

end Sys2Proof.Machine
end

section
/-! PROOFS. What the ramp step of a window start does (R95 to R103), in any of the orders that the manual leaves open: it steps the
ramp generator as the hand-over of the duties finds it, under the station state before or after a loader fault. -/

namespace Sys2Proof.Machine

/-! ### The step under a station state (R95) -/

/-- The ramp generator after a step that reads a station state. -/
def State.rampAfter (s : State) (station : StationState) : Ramp :=
  if s.ramp.partCurrent then s.partStep station
  else { s.ramp with zones := PerZone.ofFn fun z => { s.ramp.zones.get z with state := .steady } }

theorem State.rampStep_ramp (s : State) : s.rampStep.ramp = s.rampAfter s.sup.station := by
  unfold State.rampStep State.rampAfter
  split
  · dsimp only
    split
    · split <;> rfl
    · rfl
  · rfl

/-- Beside the station state a step reads the ramp generator, the zones, the control readings and the mains. -/
theorem State.rampAfter_congr {s t : State} (ramp : t.ramp = s.ramp) (zones : t.zones = s.zones)
    (ct : t.scanner.ct = s.scanner.ct) (mains : t.timer.mains = s.timer.mains) (station : StationState) :
    t.rampAfter station = s.rampAfter station := by
  have deviation : t.deviation = s.deviation := funext fun z => by simp only [State.deviation, ramp, ct]
  have readable : t.zoneReadable = s.zoneReadable := funext fun z => by simp only [State.zoneReadable, zones, ct]
  have causes : t.holdCauses station = s.holdCauses station := by
    simp only [State.holdCauses, ramp, zones, mains, readable, deviation]
  have settled : t.zoneSettled = s.zoneSettled := by
    funext guardBand z v
    simp only [State.zoneSettled, ct]
  simp only [State.rampAfter, State.partStep, State.stepDeviation, causes, settled, deviation, ramp]

/-! ### The step in the work of a window start (R106, log entry 3) -/

/-- Curtain judgement and window count, each done or not, leave ramp generator and supervisor. -/
theorem State.curtainAndCount_keeps (curtain count : Bool) (s : State) :
    ((s.doIf curtain State.judgeCurtain).doIf count State.countWindow).ramp = s.ramp
      ∧ ((s.doIf curtain State.judgeCurtain).doIf count State.countWindow).sup = s.sup := by
  cases curtain <;> cases count <;> simp [State.doIf]

/-- In each order the step reads the station state at one side of the dwell check. -/
theorem State.orderedWork_ramp (o : WindowOrder) (s : State) :
    (s.orderedWork o).ramp = s.rampAfter (if o.rampFirst then s.sup.station else (s.orderedWork o).sup.station) := by
  obtain ⟨rampFirst, curtainFirst, countFirst⟩ := o
  cases rampFirst
  case true =>
    calc (s.orderedWork ⟨true, curtainFirst, countFirst⟩).ramp
        = ((s.rampStep.doIf curtainFirst State.judgeCurtain).doIf countFirst State.countWindow).dwellWork.ramp :=
          (State.curtainAndCount_keeps _ _ _).1
      _ = s.rampStep.ramp := (State.dwellWork_ramp _).trans (State.curtainAndCount_keeps _ _ _).1
      _ = s.rampAfter s.sup.station := s.rampStep_ramp
  case false =>
    let u := ((s.doIf curtainFirst State.judgeCurtain).doIf countFirst State.countWindow).dwellWork
    have same : s.SameButTube u := (s.doIfs_sameButTube false curtainFirst countFirst).trans (State.dwellWork_sameButTube _)
    have ramp : u.ramp = s.ramp := (State.dwellWork_ramp _).trans (State.curtainAndCount_keeps _ _ _).1
    have sup : (s.orderedWork ⟨false, curtainFirst, countFirst⟩).sup = u.sup :=
      (State.curtainAndCount_keeps _ _ _).2.trans u.rampStep_sup
    calc (s.orderedWork ⟨false, curtainFirst, countFirst⟩).ramp
        = u.rampStep.ramp := (State.curtainAndCount_keeps _ _ _).1
      _ = u.rampAfter u.sup.station := u.rampStep_ramp
      _ = s.rampAfter u.sup.station := State.rampAfter_congr ramp same.zones (by rw [same.scanner]) (by rw [same.timer]) _
      _ = s.rampAfter (s.orderedWork ⟨false, curtainFirst, countFirst⟩).sup.station := by rw [sup]

theorem State.openOrderWork_ramp (s : State) :
    ∃ st, (st = s.sup.station ∨ st = s.openOrderWork.sup.station) ∧ s.openOrderWork.ramp = s.rampAfter st := by
  obtain ⟨o, k, h⟩ := s.openOrderWork_is_ordered
  rw [h]
  refine ⟨_, ?_, s.orderedWork_ramp o⟩
  split
  · exact .inl rfl
  · exact .inr rfl

/-- The blocks' work at a window start makes one step, on the duties and flags handed over (R81, R96). -/
theorem State.windowBlocks_ramp (s : State) :
    ∃ st, (st = s.sup.station ∨ st = s.windowBlocks.sup.station) ∧ s.windowBlocks.ramp = s.handOverDuties.rampAfter st := by
  obtain ⟨sup, -, ramp⟩ := s.beforeOpenOrder_keeps
  have work := s.beforeOpenOrder_windowWork
  have step := s.beforeOpenOrder.openOrderWork_ramp
  have congr : ∀ st, s.beforeOpenOrder.rampAfter st = s.handOverDuties.rampAfter st :=
    State.rampAfter_congr ramp work.zones (by rw [work.scanner]; rfl) (by rw [work.timer]; rfl)
  simp only [sup, congr] at step
  rw [s.windowBlocks_eq]
  exact step

end Sys2Proof.Machine
end

section
/-! PROOFS. What keeps law L7 at the half-cycle boundaries (R105): a step moves a setpoint toward its target and not past it, a
part that is taken starts between its start values and its targets, and a part that leaves leaves the setpoints. -/

namespace Sys2Proof.Machine

/-! ### One zone -/

/-- What law L7 asks of one zone's ramp under its maximum temperature. -/
structure RampZone.Sound (v : RampZone) (maxTemp : Nat) : Prop where
  between : v.Between
  setpoint : ∀ p, v.setpoint = some p → p ≤ maxTemp
  target : ∀ a, v.target = some a → a ≤ maxTemp

theorem RampZone.between_iff (v : RampZone) :
    v.Between ↔ (v.start = none ∧ v.target = none)
      ∨ ∃ a b p, v.start = some a ∧ v.target = some b ∧ v.setpoint = some p ∧ ((a ≤ p ∧ p ≤ b) ∨ (b ≤ p ∧ p ≤ a)) := by
  obtain ⟨setpoint, start, target, state⟩ := v
  cases start <;> cases target <;> simp [RampZone.Between]

/-- A zone without setpoint and target is sound under any maximum. -/
theorem RampZone.Sound.of_absent {v : RampZone} (between : v.Between) (setpoint : v.setpoint = none) (target : v.target = none)
    (maxTemp : Nat) : v.Sound maxTemp :=
  ⟨between, by simp [setpoint], by simp [target]⟩

theorem RampZone.Sound.untarget {v : RampZone} {maxTemp : Nat} (h : v.Sound maxTemp) : v.untarget.Sound maxTemp :=
  ⟨(RampZone.between_iff _).2 (.inl ⟨rfl, rfl⟩), h.setpoint, fun _ given => nomatch given⟩

/-- No ramp state bears on the bounds. -/
theorem RampZone.Sound.withState {v : RampZone} {maxTemp : Nat} (h : v.Sound maxTemp) (state : RampState) :
    ({ v with state := state } : RampZone).Sound maxTemp :=
  ⟨h.between, h.setpoint, h.target⟩

/-- A moved setpoint lies between where it was and its target (R98). -/
theorem moveSetpoint_between (k target sp : Nat) :
    (sp ≤ moveSetpoint k target sp ∧ moveSetpoint k target sp ≤ target)
      ∨ (target ≤ moveSetpoint k target sp ∧ moveSetpoint k target sp ≤ sp) := by
  unfold moveSetpoint
  split <;> omega

/-- A move leaves a zone, or brings its setpoint nearer its target, on the same side of it (R98, R99). -/
theorem RampZone.move_cases (rate i : Nat) (v : RampZone) :
    v.move rate i = v
      ∨ ∃ b p q, v.target = some b ∧ v.setpoint = some p ∧ ((p ≤ q ∧ q ≤ b) ∨ (b ≤ q ∧ q ≤ p))
        ∧ v.move rate i = { v with setpoint := some q } := by
  unfold RampZone.move
  split
  · rename_i b p target setpoint
    refine .inr ⟨b, p, _, target, setpoint, ?_, rfl⟩
    split
    · omega
    · exact moveSetpoint_between _ _ _
  · exact .inl rfl

theorem RampZone.Sound.move {v : RampZone} {maxTemp : Nat} (h : v.Sound maxTemp) (rate i : Nat) :
    (v.move rate i).Sound maxTemp := by
  rcases v.move_cases rate i with same | ⟨b, p, q, target, setpoint, nearer, moved⟩
  · rw [same]
    exact h
  · have within : p ≤ maxTemp := h.setpoint p setpoint
    have aim : b ≤ maxTemp := h.target b target
    rw [moved]
    refine ⟨(RampZone.between_iff _).2 ?_, fun x given => ?_, h.target⟩
    · rcases (RampZone.between_iff v).1 h.between with ⟨-, none⟩ | ⟨a, b', p', start, target', setpoint', side⟩
      · simp [target] at none
      · obtain rfl : b = b' := Option.some.inj (target.symm.trans target')
        obtain rfl : p = p' := Option.some.inj (setpoint.symm.trans setpoint')
        exact .inr ⟨a, b, q, start, target, rfl, by omega⟩
    · obtain rfl : q = x := Option.some.inj given
      omega

/-- A targeted zone starts within its maximum (R93). -/
theorem rampStart_le {maxTemp : Nat} {setpoint : Option Nat} (h : ∀ p, setpoint = some p → p ≤ maxTemp) (r : Reading) :
    rampStart maxTemp r setpoint ≤ maxTemp := by
  unfold rampStart
  split
  · exact h _ rfl
  · split
    · rw [clampNat_zero]
      exact Nat.min_le_right _ _
    · exact Nat.zero_le _

/-- A zone at the start of a part stands at its start value, with a target clamped to its maximum (R92, R93). -/
theorem State.takeTarget_sound {s : State} {z : ZoneId} (t : ThermalSpec)
    (h : (s.ramp.zones.get z).Sound (s.store.zones.get z).maxTemp) : (s.takeTarget t z).Sound (s.store.zones.get z).maxTemp := by
  unfold State.takeTarget
  dsimp only
  split
  · split
    · refine ⟨(RampZone.between_iff _).2 (.inr ⟨_, _, _, rfl, rfl, rfl, by omega⟩), fun p given => ?_, fun a given => ?_⟩
      · obtain rfl := Option.some.inj given
        exact rampStart_le h.setpoint _
      · obtain rfl := Option.some.inj given
        rw [clampNat_zero]
        exact Nat.min_le_right _ _
    · exact h.untarget
  · exact h.untarget

/-! ### The five zones -/

/-- What law L7 asks of the five zones under their maximum temperatures. -/
def State.RampSound (s : State) : Prop := ∀ z, (s.ramp.zones.get z).Sound (s.store.zones.get z).maxTemp

/-- The law asks nothing beside the zones of the ramp generator and the configuration. -/
theorem State.RampSound.of_zones {s t : State} (h : s.RampSound) (store : t.sup.store = s.sup.store)
    (zones : t.ramp.zones = s.ramp.zones) : t.RampSound := by
  unfold State.RampSound State.store
  rw [store, zones]
  exact h

/-- A step moves the zones and sets their states, or sets their states alone. -/
theorem State.rampAfter_zone (s : State) (station : StationState) (z : ZoneId) :
    ∃ state, (s.rampAfter station).zones.get z = { s.ramp.zones.get z with state := state }
      ∨ (s.rampAfter station).zones.get z
        = { (s.ramp.zones.get z).move s.ramp.rate s.ramp.pattern with state := state } := by
  unfold State.rampAfter
  split
  · simp only [State.partStep, PerZone.get_ofFn]
    split
    · exact ⟨_, .inl rfl⟩
    · exact ⟨_, .inr rfl⟩
  · rw [PerZone.get_ofFn]
    exact ⟨_, .inl rfl⟩

theorem State.RampSound.rampAfter {s : State} (h : s.RampSound) (station : StationState) (z : ZoneId) :
    ((s.rampAfter station).zones.get z).Sound (s.store.zones.get z).maxTemp := by
  obtain ⟨state, stays | moves⟩ := s.rampAfter_zone station z
  · exact stays ▸ (h z).withState state
  · exact moves ▸ ((h z).move _ _).withState state

/-! ### The sequence position -/

theorem Ramp.amend_zones (a : AmendFields) (r : Ramp) : (r.amend a).zones = r.zones := by
  unfold Ramp.amend
  split <;> rfl

theorem State.applyShadow_rampSound {s : State} (h : s.RampSound) : s.applyShadow.RampSound := by
  refine h.of_zones s.applyShadow_same.store ?_
  unfold State.applyShadow
  split
  · rfl
  · exact Ramp.amend_zones _ _

@[simp] theorem State.resume_ramp (s : State) : s.resume.ramp = s.ramp := by
  unfold State.resume
  simp only [State.removeCause_ramp, apply_ite State.ramp, State.setLoader_ramp, ite_self]
  rfl

@[simp] theorem State.takeUrgent_ramp (s : State) : s.takeUrgent.ramp = s.ramp := by
  unfold State.takeUrgent
  split
  · rfl
  · unfold State.takeSkip
    split
    · split <;> rfl
    · rfl
  · unfold State.takeHold
    split <;> rfl
  · unfold State.takeResume
    split
    · exact s.resume_ramp
    · rfl
  · rfl

@[simp] theorem State.endJoining_ramp (s : State) : s.endJoining.ramp = s.ramp := by
  unfold State.endJoining
  split
  · split <;> rfl
  · rfl

@[simp] theorem State.takeGas_ramp (s : State) (g : Option GasSpec) : (s.takeGas g).ramp = s.ramp := by cases g <;> rfl

theorem State.takeThermal_rampSound {s : State} (h : s.RampSound) (t : Option ThermalSpec) : (s.takeThermal t).RampSound := by
  intro z
  cases t
  case none =>
    have zone : ((s.takeThermal none).ramp.zones.get z) = (s.ramp.zones.get z).untarget := PerZone.get_ofFn _ z
    rw [zone]
    exact (h z).untarget
  case some t =>
    have zone : ((s.takeThermal (some t)).ramp.zones.get z) = s.takeTarget t z := PerZone.get_ofFn _ z
    rw [zone]
    exact State.takeTarget_sound t (h z)

theorem State.endSegment_rampSound {s : State} (h : s.RampSound) (c : CurrentSegment) (r : SegmentResult) :
    (s.endSegment c r).RampSound := by
  intro z
  have zone : ((s.endSegment c r).ramp.zones.get z) = (s.ramp.zones.get z).untarget := PerZone.get_ofFn _ z
  rw [zone]
  exact (h z).untarget

theorem State.startHead_rampSound {s : State} (h : s.RampSound) (g : Segment) (rest : List Segment) :
    (s.startHead g rest).RampSound := by
  have taken := State.takeThermal_rampSound h g.thermal
  refine taken.of_zones ?_ ?_
  · rw [(s.startHead_same g rest).store, (s.takeThermal_same g.thermal).store]
  · unfold State.startHead
    simp only [State.raiseIf_ramp, State.setLoader_ramp, State.takeGas_ramp]
    cases g.thermal <;> rfl

theorem State.afterEnd_rampSound {s : State} (h : s.RampSound) : s.afterEnd.RampSound := by
  unfold State.afterEnd
  split
  · split
    · exact h.of_zones rfl rfl
    · exact State.startHead_rampSound h _ _
  · exact h

theorem State.judgeSegment_rampSound {s : State} (h : s.RampSound) : s.judgeSegment.RampSound := by
  unfold State.judgeSegment
  split
  · split
    · split
      · exact State.afterEnd_rampSound (State.endSegment_rampSound h _ _)
      · exact h
    · split
      · exact State.afterEnd_rampSound (State.endSegment_rampSound h _ _)
      · exact h
  · split
    · split
      · exact h
      · exact State.startHead_rampSound (s := s.setStation .running) (h.of_zones rfl rfl) _ _
    · exact h

theorem State.executorSequence_rampSound {s : State} (h : s.RampSound) : s.executorSequence.RampSound := by
  refine State.judgeSegment_rampSound ((State.applyShadow_rampSound h).of_zones s.applyShadow.takeUrgent_same.store ?_)
  rw [State.takeUrgent_ramp]

theorem State.endJoining_rampSound {s : State} (h : s.RampSound) : s.endJoining.RampSound :=
  h.of_zones s.endJoining_same.store (by rw [s.endJoining_ramp])

/-- In either of its two orders, the sequence position keeps the setpoints' bounds. -/
theorem State.sequenceWork_rampSound {s : State} (h : s.RampSound) : s.sequenceWork.RampSound := by
  have joinFirst := State.executorSequence_rampSound (State.endJoining_rampSound h)
  have joinLast := State.endJoining_rampSound (State.executorSequence_rampSound h)
  unfold State.sequenceWork
  split
  · show (ite _ _ (ite _ _ _) : State).RampSound
    split
    · exact joinFirst
    · split
      · exact joinFirst
      · exact joinLast
  · exact State.executorSequence_rampSound h

/-! ### The other positions and the window start -/

@[simp] theorem State.shareWork_ramp (s : State) : s.shareWork.ramp = s.ramp := by rw [s.shareWork_eq]

theorem State.shareWork_rampSound {s : State} (h : s.RampSound) : s.shareWork.RampSound :=
  h.of_zones (by simp) (by simp)

theorem State.controlWork_rampSound {s : State} (h : s.RampSound) : s.controlWork.RampSound := h.of_zones rfl rfl

theorem State.slotWork_rampSound {s : State} (h : s.RampSound) : s.slotWork.RampSound := by
  refine h.of_zones s.slotWork_runsOn.store ?_
  unfold State.slotWork
  dsimp only
  split <;> rfl

theorem State.raisePosition_rampSound {s : State} (h : s.RampSound) : s.raisePosition.RampSound := by
  unfold State.raisePosition
  dsimp only
  split
  · exact State.slotWork_rampSound h
  split
  · exact State.sequenceWork_rampSound h
  split
  · exact State.shareWork_rampSound h
  split
  · exact State.controlWork_rampSound h
  · exact h

theorem State.doIf_rampSound {s : State} {f : State → State} (c : Bool) (work : ∀ u : State, u.RampSound → (f u).RampSound)
    (h : s.RampSound) : (s.doIf c f).RampSound := by
  cases c
  · exact h
  · exact work s h

theorem State.cutOffPositions_rampSound {s : State} (length : Nat) (h : s.RampSound) : (s.cutOffPositions length).RampSound :=
  State.doIf_rampSound _ (fun _ => State.controlWork_rampSound) (State.doIf_rampSound _ (fun _ => State.shareWork_rampSound)
    (State.doIf_rampSound _ (fun _ => State.sequenceWork_rampSound) h))

/-- A window start keeps the setpoints' bounds, whatever the order of its open work (log entry 3). -/
theorem State.windowBlocks_rampSound {s : State} (h : s.RampSound) : s.windowBlocks.RampSound := by
  obtain ⟨st, -, step⟩ := s.windowBlocks_ramp
  have handed : s.handOverDuties.RampSound := h.of_zones rfl rfl
  have store : s.windowBlocks.store = s.store := s.windowBlocks_windowWork.runsOn.store
  intro z
  rw [step, store]
  exact handed.rampAfter st z

theorem State.windowStartWork_rampSound {s : State} (length : Nat) (h : s.RampSound) : (s.windowStartWork length).RampSound := by
  rw [s.windowStartWork_eq]
  exact State.windowBlocks_rampSound (h.of_zones rfl rfl)

theorem State.listeningBoundary_rampSound {s : State} (h : s.RampSound) : s.listeningBoundary.RampSound := by
  have counted : s.countUp.endListening.RampSound := by
    refine h.of_zones (s.countUp_runsOn.trans s.countUp.endListening_runsOn).store ?_
    unfold State.endListening
    split <;> rfl
  unfold State.listeningBoundary
  dsimp only
  split
  · split
    · exact State.windowBlocks_rampSound (counted.of_zones rfl rfl)
    · exact counted
  · exact counted

theorem State.phasedBoundary_rampSound {s : State} (h : s.RampSound) : s.phasedBoundary.RampSound := by
  have counted : s.countUp.RampSound := h.of_zones rfl rfl
  unfold State.phasedBoundary
  dsimp only
  split
  · exact State.windowStartWork_rampSound _ (State.cutOffPositions_rampSound _ counted)
  · exact State.raisePosition_rampSound counted

theorem State.boundaryWork_rampSound {s : State} (h : s.RampSound) : s.boundaryWork.RampSound := by
  unfold State.boundaryWork
  split
  · exact h
  · exact State.listeningBoundary_rampSound h
  · exact State.phasedBoundary_rampSound h

end Sys2Proof.Machine
end

section
/-! PROOFS. Every step keeps law L7 (R105): beside the boundaries, RESTART and hard reset, no command reaches the ramp generator,
and the maximum temperatures are configured where no setpoint is. -/

namespace Sys2Proof.Machine

/-! ### The invariant -/

theorem State.rampInv_iff (s : State) : s.RampInv ↔ s.TimerInv ∧ s.RampSound
    ∧ (s.sup.station = .unconfigured → ∀ z, (s.ramp.zones.get z).setpoint = none ∧ (s.ramp.zones.get z).target = none) :=
  ⟨fun ⟨timer, between, setpoint, target, unconfigured⟩ =>
    ⟨timer, fun z => ⟨between z, setpoint z, target z⟩, unconfigured⟩,
  fun ⟨timer, sound, unconfigured⟩ =>
    ⟨timer, fun z => (sound z).between, fun z => (sound z).setpoint, fun z => (sound z).target, unconfigured⟩⟩

/-- From `s` to `t` ramp generator and configuration stay, and no station becomes UNCONFIGURED. -/
structure State.SameRamp (s t : State) : Prop where
  ramp : t.ramp = s.ramp
  store : t.sup.store = s.sup.store
  unconfigured : t.sup.station = .unconfigured → s.sup.station = .unconfigured

theorem State.SameRamp.rfl {s : State} : s.SameRamp s := ⟨Eq.refl _, Eq.refl _, id⟩

theorem State.SameRamp.trans {s t u : State} (h : s.SameRamp t) (k : t.SameRamp u) : s.SameRamp u :=
  ⟨k.ramp.trans h.ramp, k.store.trans h.store, h.unconfigured ∘ k.unconfigured⟩

theorem State.RunsOn.sameRamp {s t : State} (r : s.RunsOn t) (ramp : t.ramp = s.ramp) : s.SameRamp t :=
  ⟨ramp, r.store, r.unconfigured.1⟩

theorem State.SameRamp.rampInv {s t : State} (k : s.SameRamp t) (timer : t.TimerInv) (h : s.RampInv) : t.RampInv := by
  rw [State.rampInv_iff] at h ⊢
  obtain ⟨-, sound, absent⟩ := h
  refine ⟨timer, sound.of_zones k.store (by rw [k.ramp]), fun station z => ?_⟩
  rw [k.ramp]
  exact absent (k.unconfigured station) z

/-- Without setpoints and targets the invariant asks nothing of the maximum temperatures. -/
theorem State.rampInv_of_absent {s : State} (timer : s.TimerInv) (between : ∀ z, (s.ramp.zones.get z).Between)
    (absent : ∀ z, (s.ramp.zones.get z).setpoint = none ∧ (s.ramp.zones.get z).target = none) : s.RampInv :=
  s.rampInv_iff.2 ⟨timer, fun z => .of_absent (between z) (absent z).1 (absent z).2 _, fun _ => absent⟩

/-! ### Boundaries -/

/-- A timer that runs is a configured station's, so that the bounds of the zones are all there is to keep (R4). -/
theorem State.RunsOn.rampInv {s t : State} (r : s.RunsOn t) (running : s.timer.timer ≠ .stopped)
    (sound : s.RampSound → t.RampSound) (h : s.RampInv) : t.RampInv := by
  obtain ⟨timer, zones, -⟩ := s.rampInv_iff.1 h
  exact t.rampInv_iff.2 ⟨r.keepsBounds.timer timer, sound zones,
    fun station => absurd (timer.1 (r.unconfigured.1 station)) running⟩

theorem State.boundaryWork_rampInv {s : State} (h : s.RampInv) : s.boundaryWork.RampInv := by
  by_cases stopped : s.timer.timer = .stopped
  · have idle : s.boundaryWork = s := by simp only [State.boundaryWork, stopped]
    rw [idle]
    exact h
  · exact s.boundaryWork_runsOn.rampInv stopped State.boundaryWork_rampSound h

theorem State.boundary_rampInv {s : State} (h : s.RampInv) : s.boundary.RampInv := by
  have work := State.boundaryWork_rampInv h
  unfold State.boundary
  dsimp only
  split
  · exact work
  · exact work

theorem State.boundaries_rampInv : ∀ (k : Nat) {s : State}, s.RampInv → (State.boundaries k s).RampInv
  | 0, _, h => h
  | k + 1, _, h => State.boundaries_rampInv k (State.boundary_rampInv h)

/-- A position's row is a boundary, or nothing. -/
theorem State.boundary_if_rampInv {s : State} (c : Bool) (h : s.RampInv) : (if c then s.boundary else s).RampInv := by
  cases c
  · exact h
  · exact State.boundary_rampInv h

theorem State.zeroCross_rampInv {s : State} (e : Nat) (h : s.RampInv) : (s.zeroCross e).RampInv := by
  have restored : (s.setTimer { s.timer with mains := .present }).RampInv := h
  unfold State.zeroCross
  split
  · exact h
  split
  · dsimp only
    split
    · exact restored
    · exact State.boundary_rampInv restored
  · split
    · exact State.boundary_rampInv h
    split
    · exact h
    · exact State.boundaries_rampInv _ h

theorem State.loseMains_rampInv {s : State} (h : s.RampInv) : s.loseMains.RampInv := by
  have lost : ((s.setTimer { s.timer with mains := .lost }).raise reasonMainsLost).RampInv := h
  unfold State.loseMains
  split
  · exact State.boundaryWork_rampInv (State.boundaryWork_rampInv (State.boundaryWork_rampInv lost))
  · exact h

theorem State.substitute_rampInv {s : State} (h : s.RampInv) : s.substitute.RampInv := by
  unfold State.substitute
  split
  · exact State.boundary_rampInv h
  · exact h

/-! ### The commands that leave the ramp generator -/

/-- A command leaves the ramp generator when its act does. -/
theorem State.command_sameRamp {s : State} {code : Byte} {act : State → State} (h : ∀ u : State, u.SameRamp (act u)) :
    s.SameRamp (s.command code act) := by
  unfold State.command
  split
  · exact State.SameRamp.trans (t := s.endTransaction) ⟨rfl, rfl, id⟩ (h _)
  · exact .rfl

/-- The host's commands that act on the host port or the executor alone. -/
theorem exec_sameRamp_of_host {c : Instr}
    (hc : c ∈ [Instr.nop, .append, .amend, .urgent, .readStatus, .readZone, .readLoader, .readPeer, .readQueue, .readOutcome,
      .clearReasons, .setMask, .setLowMark]) {s t : State} (e : exec c s = .next t) : s.SameRamp t := by
  simp only [List.mem_cons, List.not_mem_nil, or_false] at hc
  rcases hc with rfl | rfl | rfl | rfl | rfl | rfl | rfl | rfl | rfl | rfl | rfl | rfl | rfl
  all_goals
    cases e
    refine State.command_sameRamp fun u => ?_
    repeat' split
    all_goals exact ⟨rfl, rfl, id⟩

/-- A trip's latch is the zone controller's (R87). -/
theorem execResetTrip_sameRamp {s t : State} (e : execResetTrip s = .next t) : s.SameRamp t := by
  cases e
  refine State.command_sameRamp fun u => ?_
  dsimp only
  repeat' split
  all_goals exact ⟨rfl, rfl, id⟩

/-- CLEAR_HALT moves a station to HELD (R164). -/
theorem execClearHalt_sameRamp {s t : State} (e : execClearHalt s = .next t) : s.SameRamp t := by
  cases e
  refine State.command_sameRamp fun u => ?_
  split
  · exact ⟨rfl, rfl, fun held => nomatch held⟩
  · exact ⟨rfl, rfl, id⟩

@[simp] theorem State.halt_ramp (s : State) : s.halt.ramp = s.ramp := by
  unfold State.halt
  dsimp only
  split <;> rfl

/-- START finds an UNCONFIGURED station, and leaves its ramp generator (R161). -/
theorem State.begin_sameRamp {s : State} (unconfigured : s.sup.station = .unconfigured) : s.SameRamp s.begin where
  ramp := by
    unfold State.begin
    simp only [apply_ite State.ramp, State.halt_ramp, ite_self]
    rfl
  store := by
    unfold State.begin State.halt
    dsimp only
    repeat' split
    all_goals rfl
  unconfigured := fun _ => unconfigured

theorem execStart_sameRamp {s t : State} (e : execStart s = .next t) : s.SameRamp t := by
  cases e
  refine State.command_sameRamp fun u => ?_
  split
  · rename_i unconfigured
    split
    · exact ⟨rfl, rfl, id⟩
    · exact (State.begin_sameRamp unconfigured).trans ⟨rfl, rfl, id⟩
  · exact ⟨rfl, rfl, id⟩

theorem State.frameArrives_ramp (s : State) (f : CanFrame) : (s.frameArrives f).ramp = s.ramp := by
  have announce : ∀ (i : StationNo) (data : List Byte), (s.announceFrom i data).ramp = s.ramp := fun i data => by
    unfold State.announceFrom
    split
    · rfl
    split
    · rfl
    split
    · obtain ⟨timer, accepted⟩ := s.acceptAnnounce_blocks i _
      rw [accepted]
    · rfl
  have leave : ∀ (i : StationNo) (data : List Byte), (s.leaveFrom i data).ramp = s.ramp := fun i data => by
    unfold State.leaveFrom State.acceptLeave
    split
    · split
      · rfl
      split
      · rw [State.raiseIf_ramp]
        rfl
      · rfl
    · rfl
  unfold State.frameArrives
  split
  · rfl
  split
  · rfl
  · split
    · rfl
    · exact announce _ _
  · split
    · rfl
    · exact leave _ _

theorem State.conversionComplete_ramp (s : State) (m : Int) : (s.conversionComplete m).ramp = s.ramp := by
  have control : ∀ (u : State) (z : ZoneId) (r : Reading), (u.controlConverted z r).ramp = u.ramp := fun u z r => by
    unfold State.controlConverted
    split
    · exact State.raiseIf_ramp _ _ _
    · rfl
  have limit : ∀ (u : State) (z : ZoneId) (r : Reading), (u.limitConverted z r).ramp = u.ramp := fun u z r => by
    unfold State.limitConverted
    split
    · exact State.report_ramp _
    · rfl
  unfold State.conversionComplete
  split
  · exact control _ _ _
  · exact limit _ _ _
  · exact State.raiseIf_ramp _ _ _
  · rfl
  · rfl
  · exact State.raiseIf_ramp _ _ _

theorem State.motionTick_ramp (s : State) : s.motionTick.ramp = s.ramp := by
  have steps : s.tickSteps.ramp = s.ramp := by
    unfold State.tickSteps
    dsimp only
    split <;> simp [State.loaderStalled]
  unfold State.motionTick
  dsimp only
  split <;> exact steps

theorem execHaltAssert_sameRamp {s t : State} (e : execHaltAssert s = .next t) : s.SameRamp t := by
  refine (execHaltAssert_runsOn e).sameRamp ?_
  cases e
  split
  · rfl
  · dsimp only
    split
    · rfl
    · exact State.halt_ramp _

theorem execSpeedUpdate_sameRamp {s t : State} (e : execSpeedUpdate s = .next t) : s.SameRamp t := by
  cases e
  split
  · exact s.motionTick_runsOn.sameRamp s.motionTick_ramp
  · exact .rfl

/-- What the bank line, the plant's inputs and the host port's frames bring reaches one block other than the ramp generator. -/
theorem exec_sameRamp_of_input {c : Instr}
    (hc : c ∈ [Instr.announceSent, .transmitAttemptFail, .leaveSent, .homeSwitchActivation, .homeSwitchRelease, .haltRelease,
      .frameError, .unknownCommand, .chipSelectReleaseDiscarding]) {s t : State} (e : exec c s = .next t) : s.SameRamp t := by
  simp only [List.mem_cons, List.not_mem_nil, or_false] at hc
  rcases hc with rfl | rfl | rfl | rfl | rfl | rfl | rfl | rfl | rfl
  all_goals
    cases e
    repeat' split
    all_goals exact ⟨rfl, rfl, id⟩

theorem State.beginTransaction_sameRamp (s : State) : s.SameRamp s.beginTransaction := by
  unfold State.beginTransaction
  split <;> exact ⟨rfl, rfl, id⟩

theorem State.clockByte_sameRamp (s : State) (b : Byte) : s.SameRamp (s.clockByte b) := by
  unfold State.clockByte
  split <;> exact ⟨rfl, rfl, id⟩

/-! ### Every command -/

/-- The zones' maximum temperatures are configured where no setpoint is present (R70, R159). -/
theorem State.configure_rampInv {s : State} (r : ResultCode) (c : Store) (echo : List Byte) (h : s.RampInv) :
    (s.configure r c echo).RampInv := by
  unfold State.configure
  split
  · rename_i station
    obtain ⟨timer, between, -, -, absent⟩ := h
    exact State.rampInv_of_absent (s := (s.setStore c).reply r echo) timer between (absent station)
  · exact h

/-- A command keeps the invariant when its act does. -/
theorem State.command_rampInv {s : State} {code : Byte} {act : State → State}
    (act_rampInv : ∀ u : State, u.RampInv → (act u).RampInv) (h : s.RampInv) : (s.command code act).RampInv := by
  unfold State.command
  split
  · exact act_rampInv s.endTransaction h
  · exact h

/-- RESTART and hard reset leave no setpoint and no target behind (R91). -/
theorem State.rampInv_of_reset {s : State} (timer : s.TimerInv) (ramp : s.ramp = Ramp.reset) : s.RampInv := by
  have zone : ∀ z, s.ramp.zones.get z = ⟨none, none, none, .steady⟩ := fun z => by
    rw [ramp]
    exact PerZone.get_all _ z
  refine State.rampInv_of_absent timer (fun z => ?_) fun z => ?_
  · rw [zone]
    exact trivial
  · rw [zone]
    exact ⟨rfl, rfl⟩

/-- Every command keeps the setpoints' bounds. -/
theorem exec_rampInv (c : Instr) {s t : State} (e : exec c s = .next t) (h : s.RampInv) : t.RampInv := by
  have timer : t.TimerInv := (exec_keepsBounds c e).timer h.1
  cases c with
  | hardReset straps => cases e; exact State.rampInv_of_reset timer rfl
  | restart =>
    cases e
    refine State.command_rampInv (fun u hu => ?_) h
    exact State.rampInv_of_reset (s := u.restart.reply .ok []) (u.restart_keepsBounds.timer hu.1) rfl
  | setBank | setGas | setLoader => cases e; exact State.command_rampInv (fun _ => State.configure_rampInv _ _ _) h
  | setZone | setBand =>
    cases e
    refine State.command_rampInv (fun u hu => ?_) h
    dsimp only
    split
    · exact hu
    · exact State.configure_rampInv _ _ _ hu
  | zeroCrossEdge elapsed => cases e; exact State.zeroCross_rampInv elapsed h
  | mainsLost => cases e; exact State.loseMains_rampInv h
  | substituteBoundary => cases e; exact State.substitute_rampInv h
  | listeningEnd | firstWindowStart | windowStart | ownSlot | sequencePosition | sharePosition | controlPosition =>
    cases e
    exact State.boundary_if_rampInv _ h
  | start => exact (execStart_sameRamp e).rampInv timer h
  | clearHalt => exact (execClearHalt_sameRamp e).rampInv timer h
  | haltAssert => exact (execHaltAssert_sameRamp e).rampInv timer h
  | nop | append | amend | urgent | readStatus | readZone | readLoader | readPeer | readQueue | readOutcome | clearReasons
  | setMask | setLowMark => exact (exec_sameRamp_of_host (by decide) e).rampInv timer h
  | resetTrip => exact (execResetTrip_sameRamp e).rampInv timer h
  | announceSent | transmitAttemptFail | leaveSent | homeSwitchActivation | homeSwitchRelease | haltRelease | frameError
  | unknownCommand | chipSelectReleaseDiscarding => exact (exec_sameRamp_of_input (by decide) e).rampInv timer h
  | announceArrival frame | leaveArrival frame =>
    cases e
    exact ((s.frameArrives_runsOn frame).sameRamp (s.frameArrives_ramp frame)).rampInv timer h
  | burnoutTest loopOhms => cases e; exact h
  | conversionComplete measured =>
    cases e
    exact ((s.conversionComplete_runsOn measured).sameRamp (s.conversionComplete_ramp measured)).rampInv timer h
  | motionTick => cases e; exact (s.motionTick_runsOn.sameRamp s.motionTick_ramp).rampInv timer h
  | speedUpdate => exact (execSpeedUpdate_sameRamp e).rampInv timer h
  | transactionBegin => cases e; exact s.beginTransaction_sameRamp.rampInv timer h
  | byteTime b => cases e; exact (s.clockByte_sameRamp b).rampInv timer h

/-- A step keeps them: it idles, or runs the front command on the state with the queue's rest. -/
theorem step_rampInv {s t : State} (e : step s = .next t) (h : s.RampInv) : t.RampInv := by
  unfold step at e
  split at e
  · cases e
    exact h
  · rename_i c rest _
    exact exec_rampInv (s := s.setPending rest) c e h

/-- Settles O56: law L7 is kept by every command. -/
theorem stepsKeepTheSetpointsInBounds : Obligations.StepsKeepTheSetpointsInBounds :=
  fun _ _ inv e => step_rampInv e inv

end Sys2Proof.Machine
end

section
/-! PROOFS. The statement about the ramp step of a window start: its hold causes, its moves, what it records and judges (R96 to R103),
and law L8. -/

namespace Sys2Proof.Machine

/-! ### The hold causes (R96) -/

theorem Reading.isValid_iff (r : Reading) : r.isValid = true ↔ r.status = .valid := by simp [Reading.isValid]

/-- A zone's deviation is measured where its setpoint is present and its reading VALID. -/
theorem State.deviation_eq_some (s : State) (z : ZoneId) (d : Nat) :
    s.deviation z = some d ↔ (s.scanner.ct.get z).status = .valid ∧ ∃ p, (s.ramp.zones.get z).setpoint = some p
      ∧ d = (p - (s.scanner.ct.get z).value) + ((s.scanner.ct.get z).value - p) := by
  unfold State.deviation
  cases setpoint : (s.ramp.zones.get z).setpoint with
  | none => simp
  | some p =>
    by_cases valid : (s.scanner.ct.get z).status = .valid
    · simp only [Reading.isValid_iff, valid, if_true, absDiff_eq, Option.some.injEq, true_and, exists_eq_left']
      exact eq_comm
    · simp [Reading.isValid_iff, valid]

/-- A rising zone was denied part of its power. -/
theorem State.holdCauses_curtailed_iff (s : State) (station : StationState) :
    (s.holdCauses station).curtailed = true ↔ ∃ z, (s.ramp.zones.get z).target ≠ none
      ∧ (s.ramp.zones.get z).state = .rising ∧ (s.zones.zones.get z).curtailed = true := by
  simp [State.holdCauses, RampZone.targeted, Option.isSome_iff_ne_none, and_assoc]

theorem RampZone.stillMoving_iff (v : RampZone) : v.stillMoving = true ↔ v.target ≠ none ∧ v.setpoint ≠ v.target := by
  simp [RampZone.stillMoving, RampZone.targeted, Option.isSome_iff_ne_none]

/-- A moving zone lags or leads by more than the guard band. -/
theorem State.holdCauses_guard_iff (s : State) (station : StationState) :
    (s.holdCauses station).guard = true ↔ s.ramp.guardBand ≠ 0 ∧ ∃ z a p, (s.ramp.zones.get z).target = some a
      ∧ (s.ramp.zones.get z).setpoint = some p ∧ p ≠ a ∧ (s.scanner.ct.get z).status = .valid
      ∧ (p + s.ramp.guardBand < (s.scanner.ct.get z).value ∨ (s.scanner.ct.get z).value + s.ramp.guardBand < p) := by
  simp only [State.holdCauses, Bool.and_eq_true, decide_eq_true_eq, List.any_eq_true, ZoneId.mem_list, true_and,
    RampZone.stillMoving_iff]
  refine and_congr_right fun _ => exists_congr fun z => ⟨fun ⟨⟨targeted, off⟩, lags⟩ => ?_, ?_⟩
  · obtain ⟨a, target⟩ := Option.ne_none_iff_exists'.1 targeted
    split at lags
    next d measured =>
      obtain ⟨valid, p, setpoint, rfl⟩ := (s.deviation_eq_some z d).1 measured
      have beyond := of_decide_eq_true lags
      exact ⟨a, p, target, setpoint, fun same => off (by rw [setpoint, target, same]), valid, by omega⟩
    next => cases lags
  · rintro ⟨a, p, target, setpoint, off, valid, outside⟩
    have measured := (s.deviation_eq_some z _).2 ⟨valid, p, setpoint, rfl⟩
    refine ⟨⟨by simp [target], by simpa [setpoint, target] using off⟩, ?_⟩
    rw [measured]
    exact decide_eq_true (by omega)

/-- A moving zone cannot be read or heated. -/
theorem State.holdCauses_reading_iff (s : State) (station : StationState) :
    (s.holdCauses station).reading = true ↔ ∃ z, (s.ramp.zones.get z).target ≠ none
      ∧ (s.ramp.zones.get z).setpoint ≠ (s.ramp.zones.get z).target
      ∧ ((s.zones.zones.get z).tripped = true ∨ (s.zones.zones.get z).openHold = true
        ∨ (s.scanner.ct.get z).status ≠ .valid) := by
  simp [State.holdCauses, RampZone.stillMoving_iff, State.zoneReadable, Reading.isValid, and_assoc, or_assoc]

theorem State.holdCauses_station_iff (s : State) (station : StationState) :
    (s.holdCauses station).station = true ↔ station = .held ∨ station = .halted ∨ s.timer.mains = .lost := by
  simp [State.holdCauses, or_assoc]

theorem HoldCauses.any_iff (c : HoldCauses) :
    c.any = true ↔ c.curtailed = true ∨ c.guard = true ∨ c.reading = true ∨ c.station = true := by
  simp [HoldCauses.any, or_assoc]

/-! ### The move (R98, R99) -/

theorem rampIncrement_eq (rate i : Nat) : rampIncrement rate i
    = rate / 60 + (if rate % 60 * (i - 1) / 60 < rate % 60 * i / 60 then 1 else 0) := by
  simp only [rampIncrement, patternExtra, decide_eq_true_eq]

/-- The extra unit of the pattern makes up for the rate's remainder, so that an increment is at most the rate divided by 60,
rounded up. -/
theorem rampIncrement_le (rate i : Nat) : rampIncrement rate i ≤ (rate + 59) / 60 := by
  unfold rampIncrement
  split
  · rename_i extra
    have remainder : rate % 60 ≠ 0 := fun none => by simp [patternExtra, none] at extra
    omega
  · omega

theorem RampZone.move_of_targeted {v : RampZone} {a p : Nat} (target : v.target = some a) (setpoint : v.setpoint = some p)
    (rate i : Nat) :
    v.move rate i = { v with setpoint := some (if rate = 0 then a else moveSetpoint (rampIncrement rate i) a p) } := by
  unfold RampZone.move
  rw [target, setpoint]

theorem RampZone.move_of_untargeted {v : RampZone} (target : v.target = none) (rate i : Nat) : v.move rate i = v := by
  unfold RampZone.move
  rw [target]

@[simp] theorem RampZone.move_target (rate i : Nat) (v : RampZone) : (v.move rate i).target = v.target := by
  unfold RampZone.move
  split <;> rfl

@[simp] theorem RampZone.move_start (rate i : Nat) (v : RampZone) : (v.move rate i).start = v.start := by
  unfold RampZone.move
  split <;> rfl

theorem RampZone.move_isSome (rate i : Nat) (v : RampZone) : (v.move rate i).setpoint.isSome = v.setpoint.isSome := by
  rcases v.move_cases rate i with same | ⟨_, _, _, _, setpoint, _, moved⟩
  · rw [same]
  · rw [moved, setpoint]
    rfl

/-- Law L8 for one zone. -/
theorem RampZone.move_near {v : RampZone} {rate i p q : Nat} (given : v.setpoint = some p)
    (moved : (v.move rate i).setpoint = some q) (moves : rate ≠ 0) :
    q ≤ p + (rate + 59) / 60 ∧ p ≤ q + (rate + 59) / 60 := by
  have increment := rampIncrement_le rate i
  cases target : v.target with
  | none =>
    rw [RampZone.move_of_untargeted target, given] at moved
    obtain rfl := Option.some.inj moved
    omega
  | some a =>
    rw [RampZone.move_of_targeted target given, if_neg moves] at moved
    obtain rfl := Option.some.inj moved
    unfold moveSetpoint
    split <;> omega

/-! ### The step of a current part -/

theorem State.partStep_zone (s : State) (station : StationState) (z : ZoneId) :
    (s.partStep station).zones.get z = (if (s.holdCauses station).any then s.ramp.zones.get z
      else (s.ramp.zones.get z).move s.ramp.rate s.ramp.pattern).setState := PerZone.get_ofFn _ z

/-- A step keeps a zone's start value and target, and sets its state by where its setpoint now stands (R100). -/
theorem State.partStep_zone_targets (s : State) (station : StationState) (z : ZoneId) :
    let v := (s.partStep station).zones.get z
    v.target = (s.ramp.zones.get z).target ∧ v.start = (s.ramp.zones.get z).start
      ∧ (∀ a p, v.target = some a → v.setpoint = some p →
          v.state = if p < a then .rising else if a < p then .falling else .steady)
      ∧ (v.target = none → v.state = .steady) := by
  intro v
  have zone : v = _ := s.partStep_zone station z
  generalize moved : (if (s.holdCauses station).any then s.ramp.zones.get z
    else (s.ramp.zones.get z).move s.ramp.rate s.ramp.pattern) = w at zone
  have target : w.target = (s.ramp.zones.get z).target := by
    rw [← moved]
    split <;> simp
  have start : w.start = (s.ramp.zones.get z).start := by
    rw [← moved]
    split <;> simp
  clear_value v
  subst zone
  refine ⟨target, start, fun a p aim stands => ?_, fun untargeted => ?_⟩
  · have aim : w.target = some a := aim
    have stands : w.setpoint = some p := stands
    simp only [RampZone.setState, aim, stands]
  · have untargeted : w.target = none := untargeted
    simp only [RampZone.setState, untargeted]

/-- A held step moves nothing, and its pattern position waits (R98). -/
theorem State.partStep_of_held (s : State) (station : StationState) (held : (s.partStep station).held = true) :
    (s.partStep station).pattern = s.ramp.pattern
      ∧ ∀ z, ((s.partStep station).zones.get z).setpoint = (s.ramp.zones.get z).setpoint := by
  have held : (s.holdCauses station).any = true := held
  refine ⟨if_pos held, fun z => ?_⟩
  rw [s.partStep_zone, if_pos held]
  rfl

/-- An unheld step moves the targeted zones, and the pattern advances (R98, R99). -/
theorem State.partStep_of_unheld (s : State) (station : StationState) (unheld : (s.partStep station).held = false) :
    (s.partStep station).pattern = (if s.ramp.pattern < 60 then s.ramp.pattern + 1 else 1)
      ∧ ∀ z a p, (s.ramp.zones.get z).target = some a → (s.ramp.zones.get z).setpoint = some p →
        ((s.partStep station).zones.get z).setpoint = some (if s.ramp.rate = 0 then a
          else moveSetpoint (rampIncrement s.ramp.rate s.ramp.pattern) a p) := by
  have unheld : ¬ (s.holdCauses station).any = true := Bool.eq_false_iff.1 unheld
  refine ⟨if_neg unheld, fun z a p target setpoint => ?_⟩
  rw [s.partStep_zone, if_neg unheld, RampZone.move_of_targeted target setpoint]
  rfl

theorem State.partStep_untargeted (s : State) (station : StationState) {z : ZoneId}
    (target : (s.ramp.zones.get z).target = none) : ((s.partStep station).zones.get z).setpoint = (s.ramp.zones.get z).setpoint := by
  rw [s.partStep_zone, RampZone.move_of_untargeted target, ite_self]
  rfl

/-! ### The largest deviation (R101) -/

/-- A targeted zone's deviation, where it is measured. -/
def State.lag (s : State) (z : ZoneId) : Option Nat := if (s.ramp.zones.get z).targeted then s.deviation z else none

theorem State.lag_eq_some (s : State) (z : ZoneId) (d : Nat) :
    s.lag z = some d ↔ (s.ramp.zones.get z).target ≠ none ∧ (s.scanner.ct.get z).status = .valid
      ∧ ∃ p, (s.ramp.zones.get z).setpoint = some p
        ∧ d = (p - (s.scanner.ct.get z).value) + ((s.scanner.ct.get z).value - p) := by
  rw [← s.deviation_eq_some z d]
  unfold State.lag RampZone.targeted
  cases target : (s.ramp.zones.get z).target <;> simp

/-- The greatest of a first value and those that a list's items have. -/
def greatestOf {α : Type} (f : α → Option Nat) (l : List α) (m : Nat) : Nat := l.foldl (fun m a => max m ((f a).getD 0)) m

theorem greatestOf_spec {α : Type} (f : α → Option Nat) : ∀ (l : List α) (m : Nat),
    m ≤ greatestOf f l m ∧ (∀ a ∈ l, ∀ d, f a = some d → d ≤ greatestOf f l m)
      ∧ (greatestOf f l m = m ∨ ∃ a ∈ l, f a = some (greatestOf f l m))
  | [], m => by simp [greatestOf]
  | a :: l, m => by
    have cons : greatestOf f (a :: l) m = greatestOf f l (max m ((f a).getD 0)) := rfl
    obtain ⟨least, above, attained⟩ := greatestOf_spec f l (max m ((f a).getD 0))
    rw [cons, List.forall_mem_cons, List.exists_mem_cons_iff]
    generalize greatestOf f l (max m ((f a).getD 0)) = r at least above attained
    cases measured : f a with
    | none =>
      rw [measured, Option.getD_none, Nat.max_zero] at least attained
      exact ⟨least, ⟨fun _ given => (nomatch given), above⟩, attained.imp_right .inr⟩
    | some d =>
      rw [measured, Option.getD_some] at least attained
      refine ⟨le_trans (le_max_left _ _) least, ⟨fun e given => ?_, above⟩, ?_⟩
      · obtain rfl := Option.some.inj given
        omega
      · rcases attained with first | later
        · rcases Nat.le_total d m with le | le
          · exact .inl (by omega)
          · exact .inr (.inl (by rw [first, max_eq_right le]))
        · exact .inr (.inr later)

theorem State.stepDeviation_eq (s : State) : s.stepDeviation = greatestOf s.lag ZoneId.list s.ramp.largestDeviation := by
  have measured : (fun (m : Nat) z => if (s.ramp.zones.get z).targeted then max m ((s.deviation z).getD 0) else m)
      = fun m z => max m ((s.lag z).getD 0) := by
    funext m z
    unfold State.lag
    split <;> simp
  rw [State.stepDeviation, measured, greatestOf]

/-! ### Completion (R102) -/

theorem State.zoneSettled_iff (s : State) (guardBand : Nat) (z : ZoneId) (v : RampZone) :
    s.zoneSettled guardBand z v = true ↔ ∀ a, v.target = some a → v.state = .steady
      ∧ (guardBand = 0 ∨ ((s.scanner.ct.get z).status = .valid ∧ (s.scanner.ct.get z).value ≤ a + guardBand
        ∧ a ≤ (s.scanner.ct.get z).value + guardBand)) := by
  have within : ∀ r a : Nat, absDiff r a ≤ guardBand ↔ r ≤ a + guardBand ∧ a ≤ r + guardBand := by
    intro r a
    rw [absDiff_eq]
    omega
  unfold State.zoneSettled
  cases target : v.target with
  | none => simp
  | some a => simp [Reading.isValid_iff, within]

theorem State.partStep_complete_iff (s : State) (station : StationState) :
    (s.partStep station).complete = true ↔ s.ramp.complete = true ∨ ((s.partStep station).held = false
      ∧ ∀ z a, (s.ramp.zones.get z).target = some a → ((s.partStep station).zones.get z).state = .steady
        ∧ (s.ramp.guardBand = 0 ∨ ((s.scanner.ct.get z).status = .valid
          ∧ (s.scanner.ct.get z).value ≤ a + s.ramp.guardBand ∧ a ≤ (s.scanner.ct.get z).value + s.ramp.guardBand))) := by
  have complete : (s.partStep station).complete = (s.ramp.complete || (!(s.partStep station).held
      && ZoneId.list.all fun z => s.zoneSettled s.ramp.guardBand z ((s.partStep station).zones.get z))) := rfl
  rw [complete]
  simp only [Bool.or_eq_true, Bool.and_eq_true, Bool.not_eq_true', List.all_eq_true, ZoneId.mem_list, true_imp_iff,
    State.zoneSettled_iff, (s.partStep_zone_targets station _).1]

/-! ### The row -/

/-- The window start's row makes one step on the state after the cut-off positions, with the duties handed over. -/
theorem exec_windowStart_ramp {s : State} (h : s.EndsWindow) :
    ∃ t st, exec .windowStart s = .next t ∧ (st = s.atWindowEnd.sup.station ∨ st = t.sup.station)
      ∧ t.ramp = s.atWindowEnd.handOverDuties.rampAfter st := by
  have row : exec .windowStart s = .next (s.atWindowEnd.nextRound s.endCount).windowBlocks.fire := by
    rw [exec_windowStart_of_ends h, State.boundary_ends h, State.windowStartWork_eq]
  obtain ⟨st, side, step⟩ := (s.atWindowEnd.nextRound s.endCount).windowBlocks_ramp
  refine ⟨_, st, row, side, step.trans ?_⟩
  exact State.rampAfter_congr rfl rfl rfl rfl st

/-- A zone's setpoint after a step, for law L8. -/
theorem State.rampAfter_near (s : State) (station : StationState) (z : ZoneId) :
    ((s.rampAfter station).zones.get z).setpoint.isSome = (s.ramp.zones.get z).setpoint.isSome
      ∧ ∀ p q, (s.ramp.zones.get z).setpoint = some p → ((s.rampAfter station).zones.get z).setpoint = some q →
        s.ramp.rate ≠ 0 → q ≤ p + (s.ramp.rate + 59) / 60 ∧ p ≤ q + (s.ramp.rate + 59) / 60 := by
  obtain ⟨state, stays | moves⟩ := s.rampAfter_zone station z
  · rw [stays]
    refine ⟨rfl, fun p q before after _ => ?_⟩
    obtain rfl := Option.some.inj (before.symm.trans after)
    omega
  · rw [moves]
    exact ⟨RampZone.move_isSome _ _ _, fun p q before after rate => RampZone.move_near before after rate⟩

/-- Settles O28: the step of a current part clause by clause, the step without one, and law L8. -/
theorem rampStepsMoveOrHold : Obligations.RampStepsMoveOrHold := by
  refine ⟨fun s h part => ?_, fun s h part => ?_, fun s h => ?_⟩
  · have ct : s.atWindowEnd.scanner.ct = s.scanner.ct := by rw [s.atWindowEnd_scanner]
    have mains : s.atWindowEnd.timer.mains = s.timer.mains := by rw [s.atWindowEnd_timer]; rfl
    obtain ⟨t, st, row, side, step⟩ := exec_windowStart_ramp h
    generalize s.atWindowEnd = b at part ct mains side step
    have step : t.ramp = b.handOverDuties.partStep st := step.trans (if_pos part)
    have handed : ∀ z, b.handOverDuties.zones.zones.get z = (b.zones.zones.get z).handOver := PerZone.get_ofFn _
    have curtailed := b.handOverDuties.holdCauses_curtailed_iff st
    have guard := b.handOverDuties.holdCauses_guard_iff st
    have reading := b.handOverDuties.holdCauses_reading_iff st
    have station := b.handOverDuties.holdCauses_station_iff st
    simp only [handed] at curtailed reading
    have held := (b.handOverDuties.holdCauses st).any_iff
    simp only [curtailed, guard, reading, station] at held
    obtain ⟨least, above, attained⟩ := greatestOf_spec b.handOverDuties.lag ZoneId.list b.handOverDuties.ramp.largestDeviation
    rw [← State.stepDeviation_eq] at least above attained
    simp only [ZoneId.mem_list, true_imp_iff, true_and, State.lag_eq_some] at above attained
    have moves := b.handOverDuties.partStep_of_unheld st
    simp only [rampIncrement_eq] at moves
    rw [← ct, ← mains]
    refine ⟨t, st, row, side, ?_⟩
    rw [step]
    exact ⟨⟨⟨curtailed, guard, reading, station⟩, held⟩, b.handOverDuties.partStep_of_held st, moves,
      fun z => b.handOverDuties.partStep_untargeted st, b.handOverDuties.partStep_zone_targets st,
      ⟨least, above, attained⟩, b.handOverDuties.partStep_complete_iff st, part, rfl, rfl⟩
  · obtain ⟨t, st, row, -, step⟩ := exec_windowStart_ramp h
    exact ⟨t, row, step.trans (if_neg (by simp [State.handOverDuties, State.mapZones, part]))⟩
  · obtain ⟨t, st, row, -, step⟩ := exec_windowStart_ramp h
    refine ⟨t, row, fun z => ?_⟩
    rw [step]
    exact State.rampAfter_near _ st z

end Sys2Proof.Machine
end

section
/-! PROOFS. The statement about the flows that the control position commands, and law L4. -/

namespace Sys2Proof.Machine

/-! ### The split of the nitrogen grant (R112) -/

/-- The curtain's firm figure alone counts in the firm stage. -/
theorem firmTotal_curtainAndPurge (firm demand : Nat) :
    firmTotal [curtainClaimant firm, purgeClaimant demand] = firm := rfl

/-- The extra stage has the purge alone, at level 0. -/
theorem levelRule_curtainAndPurge (firm demand r : Nat) :
    levelRule [curtainClaimant firm, purgeClaimant demand] 16 r 0 = if demand ≤ r then .full else .scaled r demand := by
  have above : extraBetween [curtainClaimant firm, purgeClaimant demand] 0 16 = 0 := rfl
  have own : levelExtra [curtainClaimant firm, purgeClaimant demand] 0 = demand := Nat.zero_add demand
  rw [levelRule_eq _ _ (by decide), above, own, Nat.sub_zero, if_neg (Nat.not_lt_zero r)]

/-- The curtain is served before the purge, and each up to what the grant leaves it (R112, R114). -/
theorem nitrogenSplit_eq (grant firm demand : Nat) (partFlow : Bool) :
    nitrogenSplit grant firm demand partFlow = ⟨min firm grant, min demand (grant - firm), partFlow⟩ := by
  have curtain : (grantOf grant [curtainClaimant firm, purgeClaimant demand] (curtainClaimant firm)).total = min firm grant := by
    rcases Nat.lt_or_ge grant firm with short | enough
    · rw [grantOf_of_exceeds short, min_eq_right short.le]
      exact Nat.mul_div_cancel_left grant (Nat.zero_lt_of_lt short)
    · have extra : (grantOf grant [curtainClaimant firm, purgeClaimant demand] (curtainClaimant firm)).extra ≤ 0 :=
        (grantOf_le ..).2
      rw [Grant.total, Nat.le_zero.1 extra, grantOf_of_fits enough, min_eq_left enough]
      rfl
  have purge : (grantOf grant [curtainClaimant firm, purgeClaimant demand] (purgeClaimant demand)).total
      = min demand (grant - firm) := by
    rcases Nat.lt_or_ge grant firm with short | enough
    · rw [grantOf_of_exceeds short, Nat.sub_eq_zero_of_le short.le, Nat.min_zero]
      simp [Grant.total, purgeClaimant]
    · rw [grantOf_of_fits enough, firmTotal_curtainAndPurge]
      show 0 + (levelRule [curtainClaimant firm, purgeClaimant demand] 16 (grant - firm) 0).grant demand = _
      rw [levelRule_curtainAndPurge, Nat.zero_add]
      split
      · rename_i fits
        exact (min_eq_left fits).symm
      · rename_i exceeds
        rw [min_eq_right (Nat.le_of_not_le exceeds)]
        exact Nat.mul_div_cancel_left _ (by omega)
  rw [nitrogenSplit, curtain, purge]

/-! ### The demands (R109, R110) -/

theorem State.curtainRequired_iff (s : State) : s.curtainRequired = true ↔
    ¬ (s.sup.station = .unconfigured ∨ s.sup.station = .joining)
      ∧ ¬ (s.loader.position = some s.store.loader.stroke ∧ s.loader.state = .atRest) := by
  simp [State.curtainRequired, State.sealed, imp_iff_not_or]

/-- The gas part's flow is asked for (R110). -/
def State.PartFlows (s : State) : Prop :=
  (s.sup.station = .running ∨ s.sup.station = .held) ∧ s.gas.part.current = true ∧ s.gas.part.complete = false

theorem State.purgeDemand_of_partFlows {s : State} (h : s.PartFlows) : s.purgeDemand = (s.gas.part.flow, true) := if_pos h

theorem State.purgeDemand_of_not_partFlows {s : State} (h : ¬ s.PartFlows) : s.purgeDemand =
    (if s.sup.station = .unconfigured ∨ s.sup.station = .joining then 0 else s.store.gas.idlePurge, false) :=
  (if_neg h).trans (apply_ite (fun n => (n, false)) _ _ _).symm

/-! ### The control position -/

/-- In UNCONFIGURED and JOINING the control position commands no flow (R112). -/
theorem State.controlGas_next_of_idle {s : State} (h : s.sup.station = .unconfigured ∨ s.sup.station = .joining) :
    s.controlGas.gas.next = ⟨0, 0, s.purgeDemand.2⟩ := if_pos h

/-- In the other states it commands the split of the grant. -/
theorem State.controlGas_next_of_works {s : State} (h : ¬ (s.sup.station = .unconfigured ∨ s.sup.station = .joining)) :
    s.controlGas.gas.next = ⟨min s.controlGas.gas.nitrogenFirm s.share.nitrogenGrant,
      min s.controlGas.gas.purgeDemand (s.share.nitrogenGrant - s.controlGas.gas.nitrogenFirm), s.purgeDemand.2⟩ :=
  (if_neg h).trans (nitrogenSplit_eq _ _ _ _)

theorem State.controlGas_partFlow (s : State) : s.controlGas.gas.next.partFlow = s.purgeDemand.2 := by
  by_cases h : s.sup.station = .unconfigured ∨ s.sup.station = .joining
  · rw [State.controlGas_next_of_idle h]
  · rw [State.controlGas_next_of_works h]

/-- The commanded flows are within the nitrogen grant (law L4, R114). -/
theorem State.controlGas_within_grant (s : State) :
    s.controlGas.gas.next.curtain + s.controlGas.gas.next.purge ≤ s.share.nitrogenGrant := by
  by_cases h : s.sup.station = .unconfigured ∨ s.sup.station = .joining
  · rw [State.controlGas_next_of_idle h]
    exact Nat.zero_le _
  · rw [State.controlGas_next_of_works h]
    dsimp only
    omega

/-- Settles O43: the gas unit's work on the station's demands, the split of the grant being in closed form. -/
theorem controlPositionCommandsTheFlows : Obligations.ControlPositionCommandsTheFlows := by
  intro s h st sealed partRuns idle grant
  let u := s.counted.controlZones
  have partFlow : u.controlGas.gas.next.partFlow = s.purgeDemand.2 := u.controlGas_partFlow
  refine ⟨_, exec_controlPosition h, s.curtainRequired_iff, rfl, fun runs => ?_, fun rests => ?_, rfl, fun idles => ?_,
    fun works => ?_, u.controlGas_within_grant, rfl⟩
  · have asked := State.purgeDemand_of_partFlows runs
    exact ⟨congrArg Prod.fst asked, partFlow.trans (congrArg Prod.snd asked)⟩
  · have asked := State.purgeDemand_of_not_partFlows rests
    exact ⟨partFlow.trans (congrArg Prod.snd asked), congrArg Prod.fst asked⟩
  · have next := State.controlGas_next_of_idle (s := u) idles
    exact ⟨congrArg Commanded.curtain next, congrArg Commanded.purge next⟩
  · have next := State.controlGas_next_of_works (s := u) works
    exact ⟨congrArg Commanded.curtain next, congrArg Commanded.purge next⟩

end Sys2Proof.Machine
end

section
/-! PROOFS. The loader's dwell check beside a loss or an establishment of the curtain, in either order (R135, R136). -/

namespace Sys2Proof.Machine

/-! ### What a motion start and a stop leave for the dwell check -/

/-- DWELL is neither a cause nor the loader's state. -/
def Loader.Quiet (l : Loader) : Prop := l.causes.dwell = false ∧ l.state ≠ .dwell

/-- An operation leaves the dwell band, and a loader quiet that was. -/
structure Loader.KeepsDwell (l m : Loader) : Prop where
  band : m.part.dwellBand = l.part.dwellBand
  quiet : l.Quiet → m.Quiet

theorem Loader.KeepsDwell.rfl {l : Loader} : l.KeepsDwell l := ⟨Eq.refl _, id⟩

theorem Loader.KeepsDwell.trans {l m n : Loader} (h : l.KeepsDwell m) (k : m.KeepsDwell n) : l.KeepsDwell n :=
  ⟨k.band.trans h.band, k.quiet ∘ h.quiet⟩

/-- The band and the cause as they were, and another state than DWELL. -/
theorem Loader.KeepsDwell.of_state {l m : Loader} (band : m.part.dwellBand = l.part.dwellBand)
    (cause : m.causes.dwell = l.causes.dwell) (state : m.state = l.state ∨ m.state ≠ .dwell) : l.KeepsDwell m :=
  ⟨band, fun h => ⟨cause.trans h.1, state.elim (fun e => e ▸ h.2) id⟩⟩

theorem Loader.reached_keepsDwell (l : Loader) : l.KeepsDwell l.reached := ⟨rfl, fun _ => ⟨rfl, by simp [Loader.reached]⟩⟩

theorem Loader.enterMoving_keepsDwell (l : Loader) (d : Direction) : l.KeepsDwell (l.enterMoving d) :=
  .of_state rfl rfl (.inr (by simp [Loader.enterMoving]))

theorem Loader.endHoming_keepsDwell (l : Loader) : l.KeepsDwell l.endHoming := by
  have known : l.KeepsDwell { l with position := some 0, speed := 0 } := .of_state rfl rfl (.inl rfl)
  unfold Loader.endHoming
  dsimp only
  split
  · exact known.trans (Loader.reached_keepsDwell _)
  · exact known.trans (Loader.enterMoving_keepsDwell _ _)

theorem Loader.beginMotion_keepsDwell (l : Loader) : l.KeepsDwell l.beginMotion := by
  have homes : l.KeepsDwell { l with state := .homing, direction := .outward, speed := 0, homingTravel := 0 } :=
    .of_state rfl rfl (.inr (by simp))
  unfold Loader.beginMotion
  split
  · exact l.enterMoving_keepsDwell _
  · dsimp only
    split
    · exact homes.trans (Loader.endHoming_keepsDwell _)
    · exact homes

theorem Loader.motionStart_keepsDwell (e : Bool) (l : Loader) : l.KeepsDwell (l.motionStart e) := by
  have waits : l.KeepsDwell { l with state := .waitCurtain } := .of_state rfl rfl (.inr (by simp))
  obtain h | ⟨-, -, h⟩ | ⟨-, -, h⟩ | ⟨-, -, -, h⟩ := l.motionStart_cases e
  · rw [h]
    exact .rfl
  · rw [h]
    exact .of_state rfl rfl (.inl rfl)
  · rw [h]
    exact waits
  · rw [h]
    exact waits.trans (Loader.beginMotion_keepsDwell _)

/-- A cause that leaves does not leave the state DWELL behind where DWELL was none. -/
theorem Loader.removeCause_keepsDwell (e : Bool) (k : StopCause) (l : Loader) : l.KeepsDwell (l.removeCause e k) := by
  have less : l.KeepsDwell { l with causes := l.causes.put k false } := by
    refine ⟨rfl, fun h => ⟨?_, h.2⟩⟩
    by_cases dwell : k = .dwell
    · exact dwell ▸ rfl
    · exact (StopCauses.put_dwell_ne _ _ dwell).trans h.1
  have rests : l.KeepsDwell { l with causes := l.causes.put k false, state := .atRest } :=
    less.trans (.of_state rfl rfl (.inr (by simp)))
  unfold Loader.removeCause
  split
  · dsimp only
    split
    case h_1 => exact less.trans (Loader.motionStart_keepsDwell e _)
    case h_2 =>
      split
      · exact rests.trans (Loader.motionStart_keepsDwell e _)
      · split
        · exact rests
        · exact less
    all_goals exact less
  · exact .rfl

/-- A cause other than DWELL that enters stops a loader, not in DWELL where that was none. -/
theorem Loader.addCause_keepsDwell (e : Bool) {k : StopCause} (l : Loader) (hk : k ≠ .dwell) :
    l.KeepsDwell (l.addCause e k) := by
  have more : l.KeepsDwell { l with causes := l.causes.put k true } :=
    .of_state rfl (StopCauses.put_dwell_ne _ _ hk) (.inl rfl)
  have full : (l.causes.put k true).isEmpty = false := StopCauses.not_isEmpty_of_has (k := k) (by simp)
  have stops : ∀ m : Loader, m = { l with causes := l.causes.put k true, state := .stopping } →
      l.KeepsDwell (if m.speed = 0 then m.endStop e else m) := by
    rintro m rfl
    split
    · rw [Loader.endStop_of_cause e (by exact full)]
      refine ⟨rfl, fun h => ?_⟩
      have dwell : (l.causes.put k true).dwell = false := (StopCauses.put_dwell_ne _ _ hk).trans h.1
      simp [Loader.Quiet, dwell]
    · exact more.trans (.of_state rfl rfl (.inr (by simp)))
  unfold Loader.addCause
  split
  · exact .rfl
  · dsimp only
    split
    case h_1 | h_2 => exact stops _ rfl
    case h_3 => exact more.trans (.of_state rfl rfl (.inr (by simp)))
    all_goals exact more

/-! ### The dwell check by its cases (R136) -/

/-- The dwell total once the window has been counted. -/
def Loader.windowTotal (l : Loader) : Nat := if l.causes.dwell then min 65535 (l.dwellTotal + 1) else l.dwellTotal

def Loader.counted (l : Loader) : Loader := { l with dwellTotal := l.windowTotal }

/-- The total is above the maximum dwell, which stalls the loader. -/
def Loader.Overstays (l : Loader) : Prop :=
  l.causes.dwell = true ∧ 0 < l.part.maxDwell ∧ l.part.maxDwell < l.windowTotal

/-- A loader in DWELL that is let go: at rest, and DWELL out of the set. -/
def Loader.released (l : Loader) : Loader :=
  { l.counted with causes := { l.causes with dwell := false }, state := .atRest }

/-- A push that the lag of a zone stops. -/
def Loader.PushStops (l : Loader) (lagging : Bool) : Prop :=
  l.state = .moving ∧ l.direction = .inward ∧ 0 < l.part.dwellBand ∧ lagging = true

section
variable {l : Loader} (e : Bool) {recovered lagging : Bool}

/-- Without a band, or with every zone close, no push stops. -/
theorem Loader.not_pushStops (close : l.part.dwellBand = 0 ∨ lagging = false) : ¬ l.PushStops lagging := by
  rintro ⟨-, -, wide, lags⟩
  rcases close with unbanded | near
  · omega
  · exact absurd lags (by simp [near])

theorem Loader.windowTotal_eq (l : Loader) :
    (if l.causes.dwell then satAdd1 65535 l.dwellTotal else l.dwellTotal) = l.windowTotal := by
  rw [Loader.windowTotal, satAdd1_eq]

theorem Loader.dwellCheck_of_overstays (h : l.Overstays) : l.dwellCheck e recovered lagging
    = (({ l.counted with causes := l.causes.put .dwell false } : Loader).stall, true) := by
  rw [Loader.dwellCheck, l.windowTotal_eq]
  exact if_pos h

/-- Where nothing stalls, the loader counted is let go, or its push stopped, or neither. -/
theorem Loader.dwellCheck_of_stays (h : ¬ l.Overstays) {m : Loader}
    (hm : (if l.state = .dwell ∧ (l.part.dwellBand = 0 ∨ recovered = true) then l.counted.removeCause e .dwell
      else l.counted) = m) :
    l.dwellCheck e recovered lagging
      = (if m.state = .moving ∧ m.direction = .inward ∧ 0 < m.part.dwellBand ∧ lagging = true then m.addCause e .dwell
        else m, false) := by
  subst hm
  rw [Loader.dwellCheck, l.windowTotal_eq]
  exact if_neg h

theorem Loader.dwellCheck_of_left (stays : ¬ l.Overstays) (state : l.state ≠ .dwell) (free : ¬ l.PushStops lagging) :
    l.dwellCheck e recovered lagging = (l.counted, false) := by
  rw [Loader.dwellCheck_of_stays e stays (if_neg fun h => state h.1)]
  exact congrArg (·, false) (if_neg free)

theorem Loader.dwellCheck_of_pushStops (stays : ¬ l.Overstays) (stops : l.PushStops lagging) :
    l.dwellCheck e recovered lagging = (l.counted.addCause e .dwell, false) := by
  have state : l.state ≠ .dwell := by simp [stops.1]
  rw [Loader.dwellCheck_of_stays e stays (if_neg fun h => state h.1)]
  exact congrArg (·, false) (if_pos stops)

/-- Taking DWELL from a loader in that state makes a motion start, which under another cause does nothing. -/
theorem Loader.removeCause_dwell {m : Loader} (state : m.state = .dwell) (cause : m.causes.dwell = true) :
    m.removeCause e .dwell
      = ({ m with causes := { m.causes with dwell := false }, state := .atRest } : Loader).motionStart e := by
  have has : m.causes.has .dwell = true := cause
  unfold Loader.removeCause
  rw [if_pos has]
  simp only [state]
  split
  · rfl
  · rename_i other
    exact (Loader.motionStart_of_cause e (Bool.eq_false_iff.2 other)).symm

theorem Loader.dwellCheck_of_released (stays : ¬ l.Overstays) (state : l.state = .dwell) (cause : l.causes.dwell = true)
    (recovers : l.part.dwellBand = 0 ∨ recovered = true) (close : l.part.dwellBand = 0 ∨ lagging = false) :
    l.dwellCheck e recovered lagging = (l.released.motionStart e, false) := by
  have lets : l.counted.removeCause e .dwell = l.released.motionStart e := Loader.removeCause_dwell e state cause
  have band : (l.released.motionStart e).part.dwellBand = l.part.dwellBand := (Loader.motionStart_keepsDwell e _).band
  rw [Loader.dwellCheck_of_stays e stays ((if_pos ⟨state, recovers⟩).trans lets)]
  rw [← band] at close
  exact congrArg (·, false) (if_neg (Loader.not_pushStops close))

/-- A check with no DWELL about and no push to stop changes nothing. -/
theorem Loader.dwellCheck_of_quiet (quiet : l.Quiet) (close : l.part.dwellBand = 0 ∨ lagging = false) :
    l.dwellCheck e recovered lagging = (l, false) := by
  have same : l.counted = l := by simp [Loader.counted, Loader.windowTotal, quiet.1]
  rw [Loader.dwellCheck_of_left e (fun h => absurd h.1 (by simp [quiet.1])) quiet.2 (Loader.not_pushStops close), same]

end

/-- The check reports a stall exactly when the total is above the maximum dwell. -/
theorem Loader.dwellCheck_stall (e recovered lagging : Bool) (l : Loader) :
    ((l.dwellCheck e recovered lagging).2 = true ↔ l.Overstays)
      ∧ ((l.dwellCheck e recovered lagging).2 = true → (l.dwellCheck e recovered lagging).1.state = .stalled) := by
  by_cases h : l.Overstays
  · rw [Loader.dwellCheck_of_overstays e h]
    exact ⟨iff_of_true rfl h, fun _ => rfl⟩
  · rw [Loader.dwellCheck_of_stays e h rfl]
    exact ⟨iff_of_false (by simp) h, by simp⟩

/-! ### A loss and an establishment at the loader (R135) -/

/-- What the judgement of the curtain, from one state of it to another, does to the loader. -/
def Loader.handed (before after : Bool) (l : Loader) : Loader :=
  match before, after with
  | true, false => l.curtainLost
  | false, true => l.curtainEstablished
  | _, _ => l

theorem Loader.curtainLost_keepsDwell (l : Loader) : l.KeepsDwell l.curtainLost := by
  unfold Loader.curtainLost
  split
  · exact l.addCause_keepsDwell false (by decide)
  · exact .rfl

theorem Loader.curtainEstablished_keepsDwell (l : Loader) : l.KeepsDwell l.curtainEstablished := by
  have removed := l.removeCause_keepsDwell true .curtain
  unfold Loader.curtainEstablished
  dsimp only
  split
  · exact removed.trans (Loader.beginMotion_keepsDwell _)
  · exact removed

theorem Loader.handed_keepsDwell (before after : Bool) (l : Loader) : l.KeepsDwell (l.handed before after) := by
  cases before <;> cases after
  case true.false => exact l.curtainLost_keepsDwell
  case false.true => exact l.curtainEstablished_keepsDwell
  all_goals exact .rfl

/-- Outside AT_REST and DWELL a cause leaves the set alone. -/
theorem Loader.removeCause_of_idle (e : Bool) (k : StopCause) {l : Loader} (rest : l.state ≠ .atRest) (dwell : l.state ≠ .dwell) :
    l.removeCause e k = { l with causes := l.causes.put k false } := by
  unfold Loader.removeCause
  split
  · cases state : l.state
    case atRest => exact absurd state rest
    case dwell => exact absurd state dwell
    all_goals rfl
  · rename_i has
    rw [StopCauses.put_of_has (by simpa using has)]

theorem Loader.removeCause_of_not_has (e : Bool) {k : StopCause} {l : Loader} (h : l.causes.has k = false) :
    l.removeCause e k = l := if_neg (by simp [h])

theorem Loader.endHoming_not_waiting (l : Loader) : l.endHoming.state ≠ .waitCurtain := by
  unfold Loader.endHoming
  dsimp only
  split <;> simp [Loader.reached, Loader.enterMoving]

theorem Loader.beginMotion_not_waiting (l : Loader) : l.beginMotion.state ≠ .waitCurtain := by
  unfold Loader.beginMotion
  split
  · simp [Loader.enterMoving]
  · dsimp only
    split
    · exact Loader.endHoming_not_waiting _
    · simp

/-- Under the curtain a motion start waits for nothing. -/
theorem Loader.motionStart_not_waiting {l : Loader} (h : l.state ≠ .waitCurtain) : (l.motionStart true).state ≠ .waitCurtain := by
  obtain same | ⟨-, -, reached⟩ | ⟨absent, -⟩ | ⟨-, -, -, begun⟩ := l.motionStart_cases true
  · rwa [same]
  · rwa [reached]
  · exact absurd absent (by decide)
  · rw [begun]
    exact Loader.beginMotion_not_waiting _

theorem Loader.curtainEstablished_of_waiting {l : Loader} (h : l.state = .waitCurtain) :
    l.curtainEstablished = ({ l with causes := { l.causes with curtain := false } } : Loader).beginMotion := by
  have removed : l.removeCause true .curtain = { l with causes := { l.causes with curtain := false } } :=
    Loader.removeCause_of_idle true .curtain (by simp [h]) (by simp [h])
  rw [Loader.curtainEstablished, removed]
  exact if_pos h

theorem Loader.curtainEstablished_of_not_waiting {l : Loader} (h : l.state ≠ .waitCurtain) :
    l.curtainEstablished = l.removeCause true .curtain := by
  refine if_neg ?_
  unfold Loader.removeCause
  split
  · dsimp only
    split
    case h_1 => exact Loader.motionStart_not_waiting (by simpa using h)
    case h_2 =>
      split
      · exact Loader.motionStart_not_waiting (by simp)
      · split <;> simp_all
    case h_3 => exact absurd ‹_› h
    all_goals exact h
  · exact h

/-- A motion start that waited for the curtain, once it is established, is the motion start under it with no loss among the
causes. -/
theorem Loader.motionStart_curtainEstablished {l : Loader} (rest : l.state = .atRest) :
    (l.motionStart false).curtainEstablished
      = ({ l with causes := { l.causes with curtain := false } } : Loader).motionStart true := by
  by_cases starts : l.part.current = true ∧ l.part.complete = false ∧ l.causes.isEmpty = true
  · obtain ⟨current, incomplete, empty⟩ := starts
    have free : l.causes.has .curtain = false := StopCauses.not_has_of_isEmpty _ empty
    have same : ({ l with causes := { l.causes with curtain := false } } : Loader) = l :=
      congrArg (fun c => { l with causes := c }) (StopCauses.put_of_has free)
    have start : ∀ e, l.motionStart e = _ := fun e => if_pos ⟨rest, current, incomplete, empty⟩
    rw [same, start, start]
    by_cases there : l.position = some l.part.target
    · rw [if_pos there, if_pos there, Loader.curtainEstablished_of_not_waiting (by simp [rest])]
      exact Loader.removeCause_of_not_has true free
    · rw [if_neg there, if_neg there]
      refine (Loader.curtainEstablished_of_waiting rfl).trans ?_
      exact congrArg (fun c => Loader.beginMotion { l with causes := c, state := .waitCurtain }) (StopCauses.put_of_has free)
  · have still : l.motionStart false = l := if_neg fun h => starts h.2
    rw [still, Loader.curtainEstablished_of_not_waiting (by simp [rest])]
    unfold Loader.removeCause
    split
    · simp only [rest]
      rfl
    · rename_i has
      have same : ({ l with causes := { l.causes with curtain := false } } : Loader) = l :=
        congrArg (fun c => { l with causes := c }) (StopCauses.put_of_has (by simpa using has))
      rw [same]
      exact (if_neg fun h => starts h.2).symm

/-! ### The check beside the curtain's judgement -/

/-- In a stop the judgement of the curtain changes the set alone, and not DWELL. -/
theorem Loader.handed_of_stopping (before after : Bool) {l : Loader} (h : l.state = .stopping) :
    ∃ c : StopCauses, c.dwell = l.causes.dwell
      ∧ ∀ n, ({ l with dwellTotal := n } : Loader).handed before after = { l with dwellTotal := n, causes := c } := by
  cases before <;> cases after
  case true.false =>
    refine ⟨l.causes.put .curtain true, rfl, fun n => (if_pos (by simp [Loader.inMotion, h])).trans ?_⟩
    exact Loader.addCause_of_idle false .curtain (by simp [h]) (by simp [h]) (by simp [h])
  case false.true =>
    refine ⟨l.causes.put .curtain false, rfl, fun n => ?_⟩
    rw [Loader.handed, Loader.curtainEstablished_of_not_waiting (by simp [h])]
    exact Loader.removeCause_of_idle true .curtain (by simp [h]) (by simp [h])
  all_goals exact ⟨l.causes, rfl, fun n => rfl⟩

/-- A check that lets nothing go and stops nothing may come after the judgement of the curtain as well as before it. -/
theorem Loader.handed_dwellCheck (e before after recovered : Bool) {lagging : Bool} {l : Loader} (inv : l.StopInv)
    (stays : ¬ l.Overstays) (state : l.state ≠ .dwell) (close : l.part.dwellBand = 0 ∨ lagging = false) :
    (l.handed before after).dwellCheck e recovered lagging = (l.counted.handed before after, false) := by
  cases cause : l.causes.dwell
  case false =>
    have keeps := l.handed_keepsDwell before after
    have same : l.counted = l := by simp [Loader.counted, Loader.windowTotal, cause]
    rw [← keeps.band] at close
    rw [Loader.dwellCheck_of_quiet e (keeps.quiet ⟨cause, state⟩) close, same]
  case true =>
    have stopping : l.state = .stopping := (inv.of_dwell_cause cause).1.resolve_right state
    obtain ⟨c, dwell, hands⟩ := Loader.handed_of_stopping before after stopping
    have total : ({ l with causes := c } : Loader).windowTotal = l.windowTotal := by simp [Loader.windowTotal, dwell]
    have stays' : ¬ ({ l with causes := c } : Loader).Overstays := by
      rw [Loader.Overstays, total, dwell]
      exact stays
    rw [show l.handed before after = { l with causes := c } from hands l.dwellTotal,
      Loader.dwellCheck_of_left e stays' state (Loader.not_pushStops close), Loader.counted, total]
    exact congrArg (·, false) (hands l.windowTotal).symm

theorem Loader.inMotion_iff (l : Loader) :
    l.inMotion = true ↔ l.state = .homing ∨ l.state = .moving ∨ l.state = .stopping := by
  simp [Loader.inMotion, or_assoc]

/-- A check leaves a loader in motion, but for a stall, and for a lagging push at speed 0. -/
theorem Loader.dwellCheck_inMotion (e recovered : Bool) {lagging : Bool} {l : Loader} (moving : l.inMotion = true)
    (stays : ¬ l.Overstays) (h : 0 < l.speed ∨ ¬ l.PushStops lagging) :
    ∃ m, l.dwellCheck e recovered lagging = (m, false) ∧ m.inMotion = true := by
  have state : l.state ≠ .dwell := fun dwell => by simp [Loader.inMotion, dwell] at moving
  by_cases stops : l.PushStops lagging
  · refine ⟨_, Loader.dwellCheck_of_pushStops e stays stops, ?_⟩
    have runs : l.counted.speed ≠ 0 := (h.resolve_right (not_not_intro stops)).ne'
    have pushes : l.counted.state = .moving := stops.1
    unfold Loader.addCause
    split
    · exact moving
    · simp [pushes, runs, Loader.inMotion]
  · exact ⟨_, Loader.dwellCheck_of_left e stays state stops, moving⟩

/-- A loader in DWELL takes no notice of a loss. -/
theorem Loader.curtainLost_of_dwell {l : Loader} (h : l.state = .dwell) : l.curtainLost = l :=
  if_neg (by simp [Loader.inMotion, h])

/-- A loader in DWELL only loses the cause CURTAIN to an establishment. -/
theorem Loader.curtainEstablished_of_dwell {l : Loader} (h : l.state = .dwell) (cause : l.causes.dwell = true) :
    l.curtainEstablished = { l with causes := { l.causes with curtain := false } } := by
  have full : (l.causes.put .curtain false).isEmpty = false := StopCauses.not_isEmpty_of_has (k := .dwell) cause
  rw [Loader.curtainEstablished_of_not_waiting (by simp [h])]
  exact Loader.removeCause_of_other true full (by decide)

/-- A loader let go from DWELL as the curtain is established makes its motion start under it, in either order. -/
theorem Loader.released_handed_established {recovered lagging : Bool} {l : Loader} (stays : ¬ l.Overstays)
    (state : l.state = .dwell) (cause : l.causes.dwell = true) (recovers : l.part.dwellBand = 0 ∨ recovered = true)
    (close : l.part.dwellBand = 0 ∨ lagging = false) :
    l.curtainEstablished.dwellCheck true recovered lagging
        = (({ l.released with causes := { l.causes with dwell := false, curtain := false } } : Loader).motionStart true, false)
      ∧ (l.released.motionStart false).curtainEstablished
        = ({ l.released with causes := { l.causes with dwell := false, curtain := false } } : Loader).motionStart true := by
  refine ⟨?_, Loader.motionStart_curtainEstablished rfl⟩
  rw [Loader.curtainEstablished_of_dwell state cause]
  exact Loader.dwellCheck_of_released (l := { l with causes := { l.causes with curtain := false } }) true stays state cause
    recovers close

/-! ### The report of a stall -/

/-- The loader after a check whose stall, if it makes one, is reported to a station that works or not (R137, R165). -/
def Loader.checked (works : Bool) (r : Loader × Bool) : Loader :=
  { r.1 with causes := { r.1.causes with hold := r.1.causes.hold || (r.2 && works) } }

@[simp] theorem Loader.checked_unstalled (works : Bool) (l : Loader) : Loader.checked works (l, false) = l := by
  simp [Loader.checked]

end Sys2Proof.Machine
end

section
/-! PROOFS. The statement about the flow fault and the curtain at a window start (R117 to R119, R135, R136). -/

namespace Sys2Proof.Machine

/-! ### One of several reasons that are added -/

/-- A reason is pending after it is raised on a condition. -/
theorem or_if_and_self (a m : BitVec 16) (c : Prop) [Decidable c] :
    (a ||| if c then m else 0) &&& m = if c then m else a &&& m := by
  split
  · rw [BitVec.or_comm]
    exact or_keeps_reason a BitVec.and_self
  · exact congrArg (· &&& m) BitVec.or_zero

/-- Another reason changes nothing about it. -/
theorem or_if_and_other (a : BitVec 16) {r m : BitVec 16} (c : Prop) [Decidable c] (h : r &&& m = 0) :
    (a ||| if c then r else 0) &&& m = a &&& m := by
  split
  · rw [BitVec.and_or_distrib_right, h]
    exact BitVec.or_zero
  · exact congrArg (· &&& m) BitVec.or_zero

/-! ### The judgement of the flow fault (R117) -/

theorem State.judgeFlow_of_low {s : State} (low : 4 ≤ s.gas.running.purge ∧ 2 * s.scanner.lastFp < s.gas.running.purge) :
    s.judgeFlow.gas = { s.gas with
        faultCount := min 10 (s.gas.faultCount + 1)
        faultReported := s.gas.faultReported || decide (s.gas.faultCount = 9) }
      ∧ (s.gas.faultCount = 9 → s.gas.faultReported = false → s.judgeFlow.host.reasons &&& 0x0040 = 0x0040) := by
  have count : (if s.gas.faultCount < 10 then s.gas.faultCount + 1 else 10) = min 10 (s.gas.faultCount + 1) := by
    split <;> omega
  have tenth : (decide (s.gas.faultCount < 10) && decide (min 10 (s.gas.faultCount + 1) = 10))
      = decide (s.gas.faultCount = 9) := by
    rw [Bool.eq_iff_iff]
    simp only [Bool.and_eq_true, decide_eq_true_eq]
    omega
  have row : s.judgeFlow = _ := if_pos low
  rw [row]
  simp only [count, tenth]
  refine ⟨State.raiseIf_gas _ _ _, fun nine unreported => ?_⟩
  simp only [nine, unreported]
  exact or_if_and_self s.host.reasons 0x0040 True

theorem State.judgeFlow_of_fine {s : State} (fine : ¬ (4 ≤ s.gas.running.purge ∧ 2 * s.scanner.lastFp < s.gas.running.purge)) :
    s.judgeFlow.gas = { s.gas with faultCount := 0, faultReported := false } := congrArg State.gas (if_neg fine)

/-! ### The judgement of the curtain (R118, R119) -/

/-- The gas unit after a window that was good or bad. -/
def Gas.judged (good : Bool) (g : Gas) : Gas :=
  match g.established, good with
  | false, true =>
    if g.good + 1 < 3 then { g with good := g.good + 1 }
    else { g with established := true, lost := false, good := 0, bad := 0 }
  | false, false => { g with good := 0 }
  | true, true => { g with bad := 0 }
  | true, false =>
    if g.bad + 1 < 2 then { g with bad := g.bad + 1 } else { g with established := false, lost := true, good := 0, bad := 0 }

/-- The ended window was good: at least the minimum was delivered to the curtain (R118). -/
def State.curtainGood (s : State) : Bool := decide (s.store.gas.curtainMin ≤ s.scanner.lastFc)

/-- Judging the curtain judges the gas unit, hands the outcome to the loader, and reports a loss in motion. -/
theorem State.judgeCurtain_eq (s : State) : s.judgeCurtain = { s with
    gas := s.gas.judged s.curtainGood
    loader := s.loader.handed s.gas.established (s.gas.judged s.curtainGood).established
    host := { s.host with reasons := s.host.reasons |||
      if s.gas.established = true ∧ (s.gas.judged s.curtainGood).established = false ∧ s.loader.inMotion = true then
        reasonCurtainLost else 0 } } := by
  unfold State.judgeCurtain
  rw [show decide (s.store.gas.curtainMin ≤ s.scanner.lastFc) = s.curtainGood from rfl]
  cases before : s.gas.established <;> cases good : s.curtainGood <;> simp only [Gas.judged, before]
  case false.false | true.true => simp [Loader.handed, State.setGas]
  case false.true =>
    split
    · simp [Loader.handed, State.setGas]
    · simp [Loader.handed, State.setGas, State.establishCurtain, State.setLoader]
  case true.false =>
    split
    · simp [Loader.handed, State.setGas]
    · simp [Loader.handed, State.setGas, State.loseCurtain, State.setLoader, State.raiseIf_eq]

/-- Judging the curtain leaves the flow fault, and the rest of the gas unit. -/
theorem Gas.judged_fault (good : Bool) (g : Gas) :
    (g.judged good).faultCount = g.faultCount ∧ (g.judged good).faultReported = g.faultReported := by
  unfold Gas.judged
  split
  · split <;> exact ⟨rfl, rfl⟩
  · exact ⟨rfl, rfl⟩
  · exact ⟨rfl, rfl⟩
  · split <;> exact ⟨rfl, rfl⟩

/-! ### The dwell check (R136) -/

/-- Some zone considered lags. -/
theorem State.any_lagsAbove (s : State) (bound : Nat) :
    ZoneId.list.any (s.lagsAbove bound) = true ↔ s.Lags s.ramp bound := by
  have zone : ∀ z, s.lagsAbove bound z = true ↔ ∃ p, (s.store.zones.get z).inUse = true
      ∧ (s.ramp.zones.get z).setpoint = some p ∧ (s.scanner.ct.get z).status = .valid
      ∧ (s.scanner.ct.get z).value + bound < p := fun z => by
    unfold State.lagsAbove
    cases s.ramp.zones.get z |>.setpoint <;> simp [Reading.isValid, and_assoc]
  simp only [List.any_eq_true, ZoneId.mem_list, true_and, zone]

/-- The station works: a stall takes it to HELD (R165). -/
def State.works (s : State) : Bool := decide (s.sup.station = .running ∨ s.sup.station = .idle)

/-- What the dwell check makes of the loader. -/
def State.dwellResult (s : State) : Loader × Bool :=
  s.loader.dwellCheck s.gas.established (!ZoneId.list.any (s.lagsAbove (s.loader.part.dwellBand / 2)))
    (ZoneId.list.any (s.lagsAbove s.loader.part.dwellBand))

/-- The dwell check changes the loader, and at a stall raises LOADER_FAULT and holds a working station (R137). -/
theorem State.dwellWork_eq (s : State) : s.dwellWork = { s with
    loader := Loader.checked s.works s.dwellResult
    sup := { s.sup with station := if s.dwellResult.2 = true ∧ s.works = true then .held else s.sup.station }
    host := { s.host with reasons := s.host.reasons ||| if s.dwellResult.2 = true then reasonLoaderFault else 0 } } := by
  have stalls : s.dwellResult.2 = true → s.dwellResult.1.state = .stalled := (Loader.dwellCheck_stall ..).2
  show (if s.dwellResult.2 = true then (s.setLoader s.dwellResult.1).loaderStalled else s.setLoader s.dwellResult.1) = _
  by_cases stall : s.dwellResult.2 = true
  · have state := stalls stall
    rw [if_pos stall, State.loaderStalled, State.report_eq]
    by_cases works : s.sup.station = .running ∨ s.sup.station = .idle
    · have idle : ∀ e, s.dwellResult.1.addCause e .hold
          = { s.dwellResult.1 with causes := { s.dwellResult.1.causes with hold := true } } := fun e =>
        Loader.addCause_of_idle e .hold (by simp [state]) (by simp [state]) (by simp [state])
      simp [works, State.works, stall, State.setLoader, State.raise, idle, Loader.checked]
    · simp [works, State.works, stall, State.setLoader, State.raise, State.setHost, Loader.checked]
  · simp [stall, State.setLoader, Loader.checked]

/-! ### The check and the judgement in one order or the other (log entry 3) -/

/-- A state with another ramp generator and executor. -/
def State.withTube (s : State) (r : Ramp) (e : Executor) : State := { s with ramp := r, exec := e }

theorem State.judgeCurtain_withTube (s : State) (r : Ramp) (e : Executor) :
    (s.withTube r e).judgeCurtain = s.judgeCurtain.withTube r e := by
  rw [State.judgeCurtain_eq, State.judgeCurtain_eq]
  rfl

theorem State.judgeCurtainIf_withTube (c : Bool) (s : State) (r : Ramp) (e : Executor) :
    (s.withTube r e).doIf c State.judgeCurtain = (s.doIf c State.judgeCurtain).withTube r e := by
  cases c
  · rfl
  · exact s.judgeCurtain_withTube r e

/-- The dwell check reads the ramp generator, and not the executor. -/
theorem State.dwellWork_withTube (s : State) (r : Ramp) (d e : Executor) :
    (s.withTube r e).dwellWork = (s.withTube r d).dwellWork.withTube r e := by
  rw [State.dwellWork_eq, State.dwellWork_eq]
  rfl

/-- The ramp step reaches ramp generator and executor. -/
theorem State.rampStep_withTube (s : State) : s.rampStep = s.withTube s.rampStep.ramp s.rampStep.exec := by
  unfold State.rampStep
  split
  · dsimp only
    split
    · split <;> rfl
    · rfl
  · rfl

theorem State.countWindow_withTube (s : State) : s.countWindow = s.withTube s.ramp s.countWindow.exec := by
  unfold State.countWindow
  split
  · split
    · rfl
    · split <;> rfl
  · rfl

/-- Of ramp step, judgement and count, each done or not, the judgement alone reaches beyond ramp generator and executor. -/
theorem State.doIfs_withTube (ramp curtain count : Bool) (s : State) :
    ∃ r e, (ramp = false → r = s.ramp)
      ∧ ((s.doIf ramp State.rampStep).doIf curtain State.judgeCurtain).doIf count State.countWindow
        = (s.doIf curtain State.judgeCurtain).withTube r e := by
  obtain ⟨r, e, same, step⟩ : ∃ r e, (ramp = false → r = s.ramp) ∧ s.doIf ramp State.rampStep = s.withTube r e := by
    cases ramp
    · exact ⟨s.ramp, s.exec, fun _ => rfl, rfl⟩
    · exact ⟨_, _, fun h => absurd h (by decide), s.rampStep_withTube⟩
  obtain ⟨d, counts⟩ : ∃ d, ((s.doIf curtain State.judgeCurtain).withTube r e).doIf count State.countWindow
      = (s.doIf curtain State.judgeCurtain).withTube r d := by
    cases count
    · exact ⟨e, rfl⟩
    · exact ⟨_, State.countWindow_withTube _⟩
  exact ⟨r, d, same, by rw [step, State.judgeCurtainIf_withTube, counts]⟩

/-- The judgement of the curtain and the dwell check, the judgement first or second. -/
def State.curtainAndDwell (first : Bool) (s : State) : State :=
  if first then s.judgeCurtain.dwellWork else s.dwellWork.judgeCurtain

/-- Beyond ramp generator and executor, every order of the open work is the judgement and the check in one order, the check
reading the ramp generator before or after the step. -/
theorem State.orderedWork_curtainAndDwell (o : WindowOrder) (s : State) :
    ∃ r e, (r = s.ramp ∨ r = (s.orderedWork o).ramp)
      ∧ s.orderedWork o = ((s.setRamp r).curtainAndDwell o.curtainFirst).withTube (s.orderedWork o).ramp e := by
  obtain ⟨rampFirst, curtainFirst, countFirst⟩ := o
  obtain ⟨r, e, before, first⟩ := s.doIfs_withTube rampFirst curtainFirst countFirst
  let u := ((s.setRamp r).doIf curtainFirst State.judgeCurtain).dwellWork
  have check : ((s.doIf curtainFirst State.judgeCurtain).withTube r e).dwellWork = u.withTube r e := by
    rw [State.dwellWork_withTube _ r s.exec e, ← State.judgeCurtainIf_withTube]
    rfl
  obtain ⟨q, d, after, second⟩ := (u.withTube r e).doIfs_withTube (!rampFirst) (!curtainFirst) (!countFirst)
  have whole : s.orderedWork ⟨rampFirst, curtainFirst, countFirst⟩
      = ((s.setRamp r).curtainAndDwell curtainFirst).withTube q d := by
    unfold State.orderedWork
    dsimp only
    rw [first, check, second, State.judgeCurtainIf_withTube]
    cases curtainFirst <;> rfl
  refine ⟨r, d, ?_, ?_⟩
  · rw [whole]
    cases rampFirst
    · exact .inl (before rfl)
    · exact .inr (after rfl).symm
  · rw [whole]
    rfl

/-- What the dwell check makes of a loader, the curtain's judgement from one state of it to another coming first or second. -/
def Loader.checkResult (first before after recovered lagging : Bool) (l : Loader) : Loader × Bool :=
  if first then (l.handed before after).dwellCheck after recovered lagging else l.dwellCheck before recovered lagging

/-- What judgement and check, in one of the orders and with this result of the check, leave of loader, station state and the two
reasons (R119, R135 to R137, R165). -/
structure State.ChecksCurtain (s t : State) (first before after : Bool) (x : Loader × Bool) : Prop where
  loader : t.loader = if first then Loader.checked s.works x else (Loader.checked s.works x).handed before after
  station : t.sup.station = if x.2 = true ∧ s.works = true then .held else s.sup.station
  fault : t.host.reasons &&& 0x0100 = if x.2 = true then 0x0100 else s.host.reasons &&& 0x0100
  told : t.host.reasons &&& 0x0080 =
    if before = true ∧ after = false ∧ (if first then s.loader else Loader.checked s.works x).inMotion = true then 0x0080
    else s.host.reasons &&& 0x0080

theorem State.curtainAndDwell_checksCurtain (first : Bool) (s : State) :
    (s.curtainAndDwell first).gas = s.gas.judged s.curtainGood
      ∧ s.ChecksCurtain (s.curtainAndDwell first) first s.gas.established (s.gas.judged s.curtainGood).established
        (s.loader.checkResult first s.gas.established (s.gas.judged s.curtainGood).established
          (!ZoneId.list.any (s.lagsAbove (s.loader.part.dwellBand / 2)))
          (ZoneId.list.any (s.lagsAbove s.loader.part.dwellBand))) := by
  cases first
  case false =>
    have row : s.curtainAndDwell false = s.dwellWork.judgeCurtain := rfl
    rw [row, s.dwellWork.judgeCurtain_eq, s.dwellWork_eq]
    refine ⟨rfl, ⟨rfl, rfl, ?_, ?_⟩⟩
    · exact (or_if_and_other _ _ (by decide)).trans (or_if_and_self ..)
    · refine (or_if_and_self ..).trans ?_
      dsimp only
      rw [or_if_and_other _ _ (by decide)]
      rfl
  case true =>
    have band := (s.loader.handed_keepsDwell s.gas.established (s.gas.judged s.curtainGood).established).band
    have result : s.judgeCurtain.dwellResult = s.loader.checkResult true s.gas.established
        (s.gas.judged s.curtainGood).established (!ZoneId.list.any (s.lagsAbove (s.loader.part.dwellBand / 2)))
        (ZoneId.list.any (s.lagsAbove s.loader.part.dwellBand)) := by
      rw [← band, State.dwellResult, s.judgeCurtain_eq]
      rfl
    have row : s.curtainAndDwell true = s.judgeCurtain.dwellWork := rfl
    rw [row, s.judgeCurtain.dwellWork_eq, result, s.judgeCurtain_eq]
    refine ⟨rfl, ⟨rfl, rfl, ?_, ?_⟩⟩
    · refine (or_if_and_self ..).trans ?_
      dsimp only
      rw [or_if_and_other _ _ (by decide)]
      rfl
    · exact (or_if_and_other _ _ (by decide)).trans (or_if_and_self ..)

/-- The open work judges the curtain once, and checks the dwell once on the lags before or after the ramp step. -/
theorem State.openOrderWork_checksCurtain (s : State) :
    s.openOrderWork.gas = s.gas.judged s.curtainGood
      ∧ ∃ first r recovered lagging, (r = s.ramp ∨ r = s.openOrderWork.ramp)
        ∧ (recovered = true ↔ ¬ s.Lags r (s.loader.part.dwellBand / 2)) ∧ (lagging = true ↔ s.Lags r s.loader.part.dwellBand)
        ∧ s.ChecksCurtain s.openOrderWork first s.gas.established (s.gas.judged s.curtainGood).established
          (s.loader.checkResult first s.gas.established (s.gas.judged s.curtainGood).established recovered lagging) := by
  obtain ⟨o, k, h⟩ := s.openOrderWork_is_ordered
  obtain ⟨r, e, side, ordered⟩ := s.orderedWork_curtainAndDwell o
  obtain ⟨gas, judged⟩ := (s.setRamp r).curtainAndDwell_checksCurtain o.curtainFirst
  have lags := (s.setRamp r).any_lagsAbove
  have whole : s.openOrderWork
      = (((s.setRamp r).curtainAndDwell o.curtainFirst).withTube (s.orderedWork o).ramp e).setFreeIndex k := by
    rw [h, ← ordered]
  have ramp : s.openOrderWork.ramp = (s.orderedWork o).ramp := by rw [h]; rfl
  rw [ramp, whole]
  refine ⟨gas, o.curtainFirst, r, _, _, side, ?_, lags _, ⟨judged.loader, judged.station, judged.fault, judged.told⟩⟩
  rw [Bool.not_eq_true', Bool.eq_false_iff, Ne, lags]
  rfl

/-! ### The whole work of a window start -/

/-- The work of a window start before the judgement of the flow fault. -/
def State.volumeCounted (s : State) : State :=
  let s := s.bankWindowStart.handOverDuties
  (s.setScanner s.scanner.closeWindow).countVolume

/-- A reason is as it was when another is raised. -/
theorem State.raiseIf_other (s : State) (c : Bool) {r m : BitVec 16} (h : r &&& m = 0) :
    (s.raiseIf c r).host.reasons &&& m = s.host.reasons &&& m := by
  rw [s.raiseIf_eq c r]
  exact or_if_and_other _ _ h

/-- It reaches neither loader nor curtain nor flow fault, and raises at most PEER_CHANGE. -/
theorem State.volumeCounted_keeps (s : State) :
    s.volumeCounted.gas = { s.gas with part := s.volumeCounted.gas.part } ∧ s.volumeCounted.loader = s.loader
      ∧ s.volumeCounted.scanner = s.scanner.closeWindow
      ∧ ∀ m, reasonPeerChange &&& m = 0 → s.volumeCounted.host.reasons &&& m = s.host.reasons &&& m := by
  have gas : s.bankWindowStart.gas = s.gas := by simp [State.bankWindowStart]
  have loader : s.bankWindowStart.loader = s.loader := by simp [State.bankWindowStart]
  have scanner : s.bankWindowStart.scanner = s.scanner := by simp [State.bankWindowStart]
  have reasons : ∀ m, reasonPeerChange &&& m = 0 → s.bankWindowStart.host.reasons &&& m = s.host.reasons &&& m :=
    fun m h => State.raiseIf_other _ _ h
  unfold State.volumeCounted
  rw [← gas, ← loader, ← scanner]
  generalize s.bankWindowStart = u at reasons
  exact ⟨rfl, rfl, rfl, reasons⟩

/-- Up to the open work, the loader and the curtain are as they were, and of the reasons PEER_CHANGE and FLOW_FAULT alone may
be raised. -/
theorem State.beforeOpenOrder_tube (s : State) :
    s.beforeOpenOrder.loader = s.loader ∧ s.beforeOpenOrder.gas.established = s.gas.established
      ∧ s.beforeOpenOrder.gas.good = s.gas.good ∧ s.beforeOpenOrder.gas.bad = s.gas.bad
      ∧ ∀ m, reasonPeerChange &&& m = 0 → reasonFlowFault &&& m = 0 →
        s.beforeOpenOrder.host.reasons &&& m = s.host.reasons &&& m := by
  obtain ⟨gas, loader, -, reasons⟩ := s.volumeCounted_keeps
  obtain ⟨n, b, c, flow⟩ := s.volumeCounted.judgeFlow_eq
  rw [show s.beforeOpenOrder = s.volumeCounted.judgeFlow from rfl, flow]
  simp only [State.raiseIf_gas, State.raiseIf_loader, State.setGas_gas, State.setGas_loader]
  rw [gas]
  exact ⟨loader, rfl, rfl, rfl, fun m peer other => (State.raiseIf_other _ _ other).trans (reasons m peer)⟩

/-- A window with an average purge moves the flow fault of one gas unit to that of another, with these reasons pending (R117). -/
def Gas.FaultJudgedAs (g h : Gas) (average : Nat) (reasons : BitVec 16) : Prop :=
  let low := 4 ≤ g.running.purge ∧ 2 * average < g.running.purge
  (low → h.faultCount = min 10 (g.faultCount + 1) ∧ h.faultReported = (g.faultReported || decide (g.faultCount = 9))
      ∧ (g.faultCount = 9 → g.faultReported = false → reasons &&& 0x0040 = 0x0040))
    ∧ (¬ low → h.faultCount = 0 ∧ h.faultReported = false)

theorem State.judgeFlow_faultJudgedAs (s : State) :
    s.gas.FaultJudgedAs s.judgeFlow.gas s.scanner.lastFp s.judgeFlow.host.reasons := by
  refine ⟨fun low => ?_, fun fine => ?_⟩
  · obtain ⟨fault, ninth⟩ := State.judgeFlow_of_low low
    rw [fault]
    exact ⟨rfl, rfl, ninth⟩
  · rw [State.judgeFlow_of_fine fine]
    exact ⟨rfl, rfl⟩

/-- Later work that keeps the fault's two items and only adds reasons leaves the judgement. -/
theorem Gas.FaultJudgedAs.later {g h k : Gas} {average : Nat} {reasons more : BitVec 16} (j : g.FaultJudgedAs h average reasons)
    (count : k.faultCount = h.faultCount) (reported : k.faultReported = h.faultReported)
    (keeps : reasons &&& 0x0040 = 0x0040 → more &&& 0x0040 = 0x0040) : g.FaultJudgedAs k average more := by
  unfold Gas.FaultJudgedAs at j ⊢
  rw [count, reported]
  obtain ⟨low, fine⟩ := j
  refine ⟨fun h => ?_, fine⟩
  obtain ⟨counted, reports, ninth⟩ := low h
  exact ⟨counted, reports, fun nine fresh => keeps (ninth nine fresh)⟩

/-- A window start judges the flow fault on the average delivered of the purge. -/
theorem State.windowBlocks_faultJudgedAs (s : State) :
    s.gas.FaultJudgedAs s.windowBlocks.gas s.windowBlocks.scanner.lastFp s.windowBlocks.host.reasons := by
  obtain ⟨gas, -, scanner, -⟩ := s.volumeCounted_keeps
  have raises : s.beforeOpenOrder.host.RaisesTo s.beforeOpenOrder.openOrderWork.host :=
    (State.openOrderWork_sameButTube s.beforeOpenOrder).runsOn.host
  obtain ⟨count, reported⟩ := s.beforeOpenOrder.gas.judged_fault s.beforeOpenOrder.curtainGood
  rw [← s.beforeOpenOrder.openOrderWork_checksCurtain.1] at count reported
  have judged : s.volumeCounted.gas.FaultJudgedAs s.beforeOpenOrder.gas s.volumeCounted.scanner.lastFp
      s.beforeOpenOrder.host.reasons := s.volumeCounted.judgeFlow_faultJudgedAs
  have judged := judged.later count reported raises.keeps_reason
  rw [gas, scanner, ← s.windowBlocks_windowWork.scanner, s.windowBlocks_eq] at judged
  rw [s.windowBlocks_eq]
  generalize s.beforeOpenOrder.openOrderWork = u at judged
  exact judged

/-- A window that was good or bad moves the curtain's record by one of six cases (R118, R119). -/
def Gas.JudgedAs (g h : Gas) (good : Prop) : Prop :=
  (g.established = false → good → g.good + 1 < 3 → h.established = false ∧ h.good = g.good + 1)
    ∧ (g.established = false → good → 3 ≤ g.good + 1 → h.established = true ∧ h.lost = false ∧ h.good = 0 ∧ h.bad = 0)
    ∧ (g.established = false → ¬ good → h.established = false ∧ h.good = 0)
    ∧ (g.established = true → good → h.established = true ∧ h.bad = 0)
    ∧ (g.established = true → ¬ good → g.bad + 1 < 2 → h.established = true ∧ h.bad = g.bad + 1)
    ∧ (g.established = true → ¬ good → 2 ≤ g.bad + 1 → h.established = false ∧ h.lost = true ∧ h.good = 0 ∧ h.bad = 0)

theorem Gas.judged_judgedAs (g : Gas) (good : Prop) [Decidable good] : g.JudgedAs (g.judged (decide good)) good := by
  refine ⟨fun e h n => ?_, fun e h n => ?_, fun e h => ?_, fun e h => ?_, fun e h n => ?_, fun e h n => ?_⟩
  · simp [Gas.judged, e, h, n]
  · simp [Gas.judged, e, h, Nat.not_lt.2 n]
  · simp [Gas.judged, e, h]
  · simp [Gas.judged, e, h]
  · simp [Gas.judged, e, h, n]
  · simp [Gas.judged, e, h, Nat.not_lt.2 n]

/-- A window start judges the curtain on the average delivered to it. -/
theorem State.windowBlocks_judgedAs (s : State) :
    s.gas.JudgedAs s.windowBlocks.gas (s.store.gas.curtainMin ≤ s.windowBlocks.scanner.lastFc) := by
  obtain ⟨-, established, good, bad, -⟩ := s.beforeOpenOrder_tube
  have store : s.beforeOpenOrder.store = s.store := congrArg Supervisor.store s.beforeOpenOrder_keeps.1
  have judged : s.beforeOpenOrder.gas.JudgedAs (s.beforeOpenOrder.gas.judged s.beforeOpenOrder.curtainGood)
      (s.beforeOpenOrder.store.gas.curtainMin ≤ s.beforeOpenOrder.scanner.lastFc) := Gas.judged_judgedAs _ _
  rw [← s.beforeOpenOrder.openOrderWork_checksCurtain.1, store,
    s.beforeOpenOrder_windowWork.scanner, ← s.windowBlocks_windowWork.scanner] at judged
  unfold Gas.JudgedAs at judged ⊢
  rw [established, good, bad, s.windowBlocks_eq] at judged
  rw [s.windowBlocks_eq]
  generalize s.beforeOpenOrder.openOrderWork = u at judged
  exact judged

/-- Judgement and check act in some order on the loader as the window start finds it. -/
theorem State.windowBlocks_checksCurtain (s : State) :
    ∃ first r recovered lagging, (r = s.ramp ∨ r = s.windowBlocks.ramp)
      ∧ (recovered = true ↔ ¬ s.Lags r (s.loader.part.dwellBand / 2)) ∧ (lagging = true ↔ s.Lags r s.loader.part.dwellBand)
      ∧ s.ChecksCurtain s.windowBlocks first s.gas.established s.windowBlocks.gas.established
        (s.loader.checkResult first s.gas.established s.windowBlocks.gas.established recovered lagging) := by
  obtain ⟨loader, established, -, -, reasons⟩ := s.beforeOpenOrder_tube
  obtain ⟨sup, -, ramp⟩ := s.beforeOpenOrder_keeps
  have store : s.beforeOpenOrder.store = s.store := congrArg Supervisor.store sup
  have ct : s.beforeOpenOrder.scanner.ct = s.scanner.ct := by rw [s.beforeOpenOrder_windowWork.scanner]; rfl
  have lags : ∀ r bound, s.beforeOpenOrder.Lags r bound ↔ s.Lags r bound := fun r bound => by
    rw [State.Lags, State.Lags, store, ct]
  obtain ⟨gas, first, r, recovered, lagging, side, recovers, lagged, checks⟩ := s.beforeOpenOrder.openOrderWork_checksCurtain
  obtain ⟨left, station, fault, told⟩ := checks
  have works : s.beforeOpenOrder.works = s.works := by rw [State.works, sup]; rfl
  rw [← gas] at left station fault told
  rw [works, loader, established] at left station told
  rw [sup] at station
  rw [loader, established, reasons _ (by decide) (by decide)] at fault
  rw [reasons _ (by decide) (by decide)] at told
  rw [lags, loader] at recovers lagged
  rw [ramp] at side
  rw [s.windowBlocks_eq]
  generalize s.beforeOpenOrder.openOrderWork = u at side left station fault told
  exact ⟨first, r, recovered, lagging, side, recovers, lagged, left, station, fault, told⟩

/-! ### What the judgement and the check leave of the loader -/

section
variable {s t : State} {first before after recovered lagging : Bool}

/-- A loss is handed over before the check or after it. -/
theorem State.ChecksCurtain.loss_orders {x : Loader × Bool} (c : s.ChecksCurtain t first true false x)
    (result : x = s.loader.checkResult first true false recovered lagging) :
    (x = s.loader.curtainLost.dwellCheck false recovered lagging ∧ t.loader = Loader.checked s.works x
        ∧ t.host.reasons &&& 0x0080 = if s.loader.inMotion = true then 0x0080 else s.host.reasons &&& 0x0080)
      ∨ (x = s.loader.dwellCheck true recovered lagging ∧ t.loader = (Loader.checked s.works x).curtainLost
        ∧ t.host.reasons &&& 0x0080 =
          if (Loader.checked s.works x).inMotion = true then 0x0080 else s.host.reasons &&& 0x0080) := by
  obtain ⟨loader, -, -, told⟩ := c
  simp only [true_and] at told
  cases first
  · exact .inr ⟨result, loader, told⟩
  · exact .inl ⟨result, loader, told⟩

/-- So is an establishment. -/
theorem State.ChecksCurtain.establishment_orders {x : Loader × Bool} (c : s.ChecksCurtain t first false true x)
    (result : x = s.loader.checkResult first false true recovered lagging) :
    (x = s.loader.curtainEstablished.dwellCheck true recovered lagging ∧ t.loader = Loader.checked s.works x)
      ∨ (x = s.loader.dwellCheck false recovered lagging ∧ t.loader = (Loader.checked s.works x).curtainEstablished) := by
  have loader := c.loader
  cases first
  · exact .inr ⟨result, loader⟩
  · exact .inl ⟨result, loader⟩

@[simp] theorem Loader.handed_self (e : Bool) (l : Loader) : l.handed e e = l := by
  cases e <;> rfl

/-- While the curtain's state stays, the check alone acts. -/
theorem State.ChecksCurtain.same_check {x : Loader × Bool} {e : Bool} (c : s.ChecksCurtain t first e e x)
    (result : x = s.loader.checkResult first e e recovered lagging) :
    x = s.loader.dwellCheck e recovered lagging ∧ t.loader = Loader.checked s.works x := by
  have loader := c.loader
  rw [Loader.checkResult] at result
  rw [Loader.handed_self, ite_self] at loader result
  exact ⟨result, loader⟩

/-- Without a loss no loss is told. -/
theorem State.ChecksCurtain.not_told {x : Loader × Bool} (c : s.ChecksCurtain t first before after x)
    (stays : ¬ (before = true ∧ after = false)) : t.host.reasons &&& 0x0080 = s.host.reasons &&& 0x0080 :=
  c.told.trans (if_neg fun h => stays ⟨h.1, h.2.1⟩)

/-- A check that makes nothing of the loader as it finds it leaves the curtain alone to act. -/
theorem State.ChecksCurtain.of_left (c : s.ChecksCurtain t first before after
    (s.loader.checkResult first before after recovered lagging)) {m : Loader}
    (motion : m.inMotion = s.loader.inMotion)
    (left : s.loader.dwellCheck before recovered lagging = (m, false))
    (judged : (s.loader.handed before after).dwellCheck after recovered lagging = (m.handed before after, false)) :
    t.loader = m.handed before after
      ∧ t.host.reasons &&& 0x0080 =
        if before = true ∧ after = false ∧ s.loader.inMotion = true then 0x0080 else s.host.reasons &&& 0x0080 := by
  obtain ⟨loader, -, -, told⟩ := c
  cases first
  · have x : s.loader.checkResult false before after recovered lagging = (m, false) := left
    rw [x, Loader.checked_unstalled] at loader told
    rw [← motion]
    exact ⟨loader, told⟩
  · have x : s.loader.checkResult true before after recovered lagging = (m.handed before after, false) := judged
    rw [x, Loader.checked_unstalled] at loader told
    exact ⟨loader, told⟩

/-- With nothing to judge, the check leaves the curtain alone to act. -/
theorem State.ChecksCurtain.of_noDwell (c : s.ChecksCurtain t first before after
    (s.loader.checkResult first before after recovered lagging)) (idle : s.loader.NoDwell) :
    t.loader = s.loader.handed before after
      ∧ t.host.reasons &&& 0x0080 =
        if before = true ∧ after = false ∧ s.loader.inMotion = true then 0x0080 else s.host.reasons &&& 0x0080 := by
  obtain ⟨cause, state, band⟩ := idle
  have keeps := s.loader.handed_keepsDwell before after
  exact c.of_left rfl (Loader.dwellCheck_of_quiet _ ⟨cause, state⟩ (.inl band))
    (Loader.dwellCheck_of_quiet _ (keeps.quiet ⟨cause, state⟩) (.inl (keeps.band.trans band)))

/-- Outside DWELL, with every zone close and no stall, the window is counted and the curtain acts. -/
theorem State.ChecksCurtain.of_close (c : s.ChecksCurtain t first before after
    (s.loader.checkResult first before after recovered lagging)) (inv : s.loader.StopInv)
    (stays : ¬ s.loader.Overstays) (state : s.loader.state ≠ .dwell) (close : s.loader.part.dwellBand = 0 ∨ lagging = false) :
    t.loader = s.loader.counted.handed before after
      ∧ t.host.reasons &&& 0x0080 =
        if before = true ∧ after = false ∧ s.loader.inMotion = true then 0x0080 else s.host.reasons &&& 0x0080 :=
  c.of_left rfl (Loader.dwellCheck_of_left _ stays state (Loader.not_pushStops close))
    (Loader.handed_dwellCheck _ _ _ _ inv stays state close)

/-- A loss is reported for a loader in motion, but for a stall, and for a lagging push at speed 0 (R119). -/
theorem State.ChecksCurtain.loss_told (c : s.ChecksCurtain t first true false
    (s.loader.checkResult first true false recovered lagging)) (moving : s.loader.inMotion = true)
    (stays : ¬ s.loader.Overstays) (h : 0 < s.loader.speed ∨ ¬ s.loader.PushStops lagging) :
    t.host.reasons &&& 0x0080 = 0x0080 := by
  have told := c.told
  cases first
  · obtain ⟨m, left, moves⟩ := Loader.dwellCheck_inMotion true recovered moving stays h
    have x : s.loader.checkResult false true false recovered lagging = (m, false) := left
    rw [x, Loader.checked_unstalled] at told
    exact told.trans (if_pos ⟨rfl, rfl, moves⟩)
  · exact told.trans (if_pos ⟨rfl, rfl, moving⟩)

/-- A loader let go from DWELL as the curtain is lost makes its motion start after the loss, or before it and loses it then. -/
theorem State.ChecksCurtain.loss_of_released (c : s.ChecksCurtain t first true false
    (s.loader.checkResult first true false recovered lagging))
    (stays : ¬ s.loader.Overstays) (state : s.loader.state = .dwell) (cause : s.loader.causes.dwell = true)
    (recovers : s.loader.part.dwellBand = 0 ∨ recovered = true) (close : s.loader.part.dwellBand = 0 ∨ lagging = false) :
    (t.loader = s.loader.released.motionStart false ∧ t.host.reasons &&& 0x0080 = s.host.reasons &&& 0x0080)
      ∨ (t.loader = (s.loader.released.motionStart true).curtainLost
        ∧ t.host.reasons &&& 0x0080 =
          if (s.loader.released.motionStart true).inMotion = true then 0x0080 else s.host.reasons &&& 0x0080) := by
  obtain ⟨loader, -, -, told⟩ := c
  have lets : ∀ e, s.loader.dwellCheck e recovered lagging = (s.loader.released.motionStart e, false) := fun e =>
    Loader.dwellCheck_of_released e stays state cause recovers close
  cases first
  · have x : s.loader.checkResult false true false recovered lagging = (s.loader.released.motionStart true, false) := lets true
    rw [x, Loader.checked_unstalled] at loader told
    simp only [true_and] at told
    exact .inr ⟨loader, told⟩
  · have x : s.loader.checkResult true true false recovered lagging = (s.loader.released.motionStart false, false) :=
      (congrArg (Loader.dwellCheck false recovered lagging) (Loader.curtainLost_of_dwell state)).trans (lets false)
    rw [x, Loader.checked_unstalled] at loader
    exact .inl ⟨loader, told.trans (if_neg (by simp [Loader.inMotion, state]))⟩

/-- A loader let go from DWELL as the curtain is established makes its motion start under it. -/
theorem State.ChecksCurtain.establishment_of_released (c : s.ChecksCurtain t first false true
    (s.loader.checkResult first false true recovered lagging))
    (stays : ¬ s.loader.Overstays) (state : s.loader.state = .dwell) (cause : s.loader.causes.dwell = true)
    (recovers : s.loader.part.dwellBand = 0 ∨ recovered = true) (close : s.loader.part.dwellBand = 0 ∨ lagging = false) :
    t.loader
      = ({ s.loader.released with causes := { s.loader.causes with dwell := false, curtain := false } } : Loader).motionStart
        true := by
  obtain ⟨checked, begun⟩ := Loader.released_handed_established stays state cause recovers close
  have loader := c.loader
  cases first
  · have x : s.loader.checkResult false false true recovered lagging = (s.loader.released.motionStart false, false) :=
      Loader.dwellCheck_of_released false stays state cause recovers close
    rw [x, Loader.checked_unstalled] at loader
    exact loader.trans begun
  · have x : s.loader.checkResult true false true recovered lagging = _ := checked
    rw [x, Loader.checked_unstalled] at loader
    exact loader

end

/-- A zone that lags by more than a bound lags by more than half of it. -/
theorem State.Lags.half {s : State} {r : Ramp} {bound : Nat} (h : s.Lags r bound) : s.Lags r (bound / 2) := by
  obtain ⟨z, p, inUse, setpoint, valid, lag⟩ := h
  exact ⟨z, p, inUse, setpoint, valid, by omega⟩

/-- The row judges flow fault and curtain, and hands loader and dwell check what it finds, in one of the orders. -/
theorem exec_windowStart_judges {s : State} (h : s.EndsWindow) : ∃ t first r recovered lagging,
    exec .windowStart s = .next t ∧ s.atWindowEnd.gas.FaultJudgedAs t.gas t.scanner.lastFp t.host.reasons
      ∧ s.atWindowEnd.gas.JudgedAs t.gas (s.store.gas.curtainMin ≤ t.scanner.lastFc)
      ∧ (r = s.atWindowEnd.ramp ∨ r = t.ramp)
      ∧ (recovered = true ↔ ¬ s.atWindowEnd.Lags r (s.atWindowEnd.loader.part.dwellBand / 2))
      ∧ (lagging = true ↔ s.atWindowEnd.Lags r s.atWindowEnd.loader.part.dwellBand)
      ∧ s.atWindowEnd.ChecksCurtain t first s.atWindowEnd.gas.established t.gas.established
        (s.atWindowEnd.loader.checkResult first s.atWindowEnd.gas.established t.gas.established recovered lagging) := by
  have store : s.store = s.atWindowEnd.store := s.atWindowEnd_cutOffKeeps.store.symm
  have row : exec .windowStart s = .next (s.atWindowEnd.nextRound s.endCount).windowBlocks.fire := by
    rw [exec_windowStart_of_ends h, State.boundary_ends h, State.windowStartWork_eq]
  rw [store]
  generalize s.atWindowEnd = p at row
  have fault := (p.nextRound s.endCount).windowBlocks_faultJudgedAs
  have record := (p.nextRound s.endCount).windowBlocks_judgedAs
  obtain ⟨first, r, recovered, lagging, side, recovers, lags, loader, station, reason, told⟩ :=
    (p.nextRound s.endCount).windowBlocks_checksCurtain
  generalize (p.nextRound s.endCount).windowBlocks = u at row fault record side loader station reason told
  exact ⟨u.fire, first, r, recovered, lagging, row, fault, record, side, recovers, lags, loader, station, reason, told⟩

/-- Neither a loss nor an establishment: the curtain's state stays. -/
theorem established_stays {before after : Bool} (lost : ¬ (before = true ∧ after = false))
    (made : ¬ (before = false ∧ after = true)) : after = before := by
  cases before <;> cases after <;> simp at lost made ⊢

/-- Settles O27: the flow fault and the curtain's record by their judgements, and the loader by judgement and check in either
order. -/
theorem windowStartJudgesTheFlows : Obligations.WindowStartJudgesTheFlows := by
  intro s h p
  obtain ⟨t, first, r, recovered, lagging, row, fault, record, side, recovers, lags, checks⟩ := exec_windowStart_judges h
  refine ⟨t, row, fault, record, fun idle => ?_, ?_⟩
  · intro l lost made
    obtain ⟨loader, told⟩ := checks.of_noDwell idle
    refine ⟨fun ⟨was, gone⟩ => ?_, ?_, fun ⟨was, come⟩ flows => ?_, fun ⟨was, come⟩ waits => ?_, fun stays absent => ?_⟩
    · rw [loader, was, gone]
      rfl
    · simpa only [lost, and_assoc] using told
    · rw [loader, was, come]
      exact Loader.curtainEstablished_of_not_waiting flows
    · rw [loader, was, come]
      exact Loader.curtainEstablished_of_waiting waits
    · rw [loader, established_stays stays absent, Loader.handed_self]
  · intro l band lost made works told total stalls counted released close
    have settles : ∀ bound, close bound → band = 0 ∨ ¬ p.Lags r bound := fun bound h =>
      h.imp_right fun both => side.elim (fun e => e ▸ both.1) (fun e => e ▸ both.2)
    refine ⟨?_, fun ⟨was, gone⟩ moving stays h => ?_, fun inv stays near => ?_⟩
    · obtain ⟨x, result⟩ : ∃ x, x = p.loader.checkResult first p.gas.established t.gas.established recovered lagging := ⟨_, rfl⟩
      rw [← result] at checks
      have station : t.sup.station = if x.2 = true ∧ works then .held else p.sup.station :=
        checks.station.trans (if_congr (and_congr_right' decide_eq_true_iff) rfl rfl)
      refine ⟨r, recovered, lagging, x, side, recovers, lags, station, checks.fault, fun ⟨was, gone⟩ => ?_,
        fun ⟨was, come⟩ => ?_, fun stays absent => ?_, checks.not_told⟩
      · rw [was, gone] at checks result
        exact checks.loss_orders result
      · rw [was, come] at checks result
        exact checks.establishment_orders result
      · rw [established_stays stays absent] at checks result
        exact checks.same_check result
    · rw [was, gone] at checks
      refine checks.loss_told moving stays (h.imp_right fun free stops => ?_)
      obtain ⟨state, direction, wide, lagged⟩ := stops
      rcases free with other | other | other
      · exact other state
      · exact other direction
      · exact (settles band other).elim (fun unbanded => absurd unbanded wide.ne') (fun close => close (lags.1 lagged))
    · have recovered := (settles _ near).imp_right recovers.2
      have unlagged : band = 0 ∨ lagging = false :=
        (settles _ near).imp_right fun halved => Bool.eq_false_iff.2 fun lagged => halved (lags.1 lagged).half
      refine ⟨fun ⟨was, gone⟩ state => ?_, fun ⟨was, gone⟩ state => ?_,
        fun ⟨was, come⟩ state => ?_, fun ⟨was, come⟩ state => ?_⟩
      · rw [was, gone] at checks
        obtain ⟨loader, told⟩ := checks.of_close inv stays state unlagged
        simp only [true_and] at told
        exact ⟨loader, told⟩
      · rw [was, gone] at checks
        exact checks.loss_of_released stays state (inv.dwell_cause state) recovered unlagged
      · rw [was, come] at checks
        exact (checks.of_close inv stays state unlagged).1
      · rw [was, come] at checks
        exact checks.establishment_of_released stays state (inv.dwell_cause state) recovered unlagged

end Sys2Proof.Machine
end

section
/-! PROOFS. The operations of the loader, each said once by the loader's state, and the statement about them (R126, R131 to R137). -/

namespace Sys2Proof.Machine

/-! ### Motion starts (R126, R131) -/

/-- What a motion start asks: rest, a part to complete and no stop cause. -/
def Loader.Ready (l : Loader) : Prop :=
  l.state = .atRest ∧ l.part.current = true ∧ l.part.complete = false ∧ l.causes = ⟨false, false, false, false, false⟩

section
variable {l : Loader} (e : Bool)

theorem Loader.ready_iff (l : Loader) : l.Ready ↔
    l.state = .atRest ∧ l.part.current = true ∧ l.part.complete = false ∧ l.causes.isEmpty = true := by
  rw [Loader.Ready, StopCauses.isEmpty_iff]

theorem Loader.motionStart_of_not_ready (h : ¬ l.Ready) : l.motionStart e = l := if_neg (mt l.ready_iff.2 h)

theorem Loader.motionStart_at_target (h : l.Ready) (there : l.position = some l.part.target) :
    l.motionStart e = { l with part := { l.part with complete := true } } :=
  (if_pos (l.ready_iff.1 h)).trans (if_pos there)

theorem Loader.motionStart_elsewhere (h : l.Ready) (elsewhere : l.position ≠ some l.part.target) :
    l.motionStart e = if e then ({ l with state := .waitCurtain } : Loader).beginMotion else { l with state := .waitCurtain } :=
  (if_pos (l.ready_iff.1 h)).trans (if_neg elsewhere)

theorem Loader.beginMotion_known {p : Nat} (h : l.position = some p) :
    l.beginMotion = l.enterMoving (if p < l.part.target then .inward else .outward) := by
  simp only [Loader.beginMotion, h]

/-- From an unknown position the loader homes, and an active home switch ends that at once. -/
theorem Loader.beginMotion_unknown (h : l.position = none) :
    l.beginMotion = (if l.homeActive then
        ({ l with state := .homing, direction := .outward, speed := 0, homingTravel := 0 } : Loader).endHoming
      else { l with state := .homing, direction := .outward, speed := 0, homingTravel := 0 }) := by
  simp only [Loader.beginMotion, h]

theorem Loader.endHoming_at_target (h : l.part.target = 0) :
    l.endHoming = ({ l with position := some 0 } : Loader).reached := if_pos h

theorem Loader.endHoming_elsewhere (h : l.part.target ≠ 0) :
    l.endHoming = ({ l with position := some 0 } : Loader).enterMoving .inward := if_neg h

/-- A stop that ends makes a motion start with the set empty, and stands in DWELL or AT_REST otherwise (R133). -/
theorem Loader.endStop_eq (l : Loader) : l.endStop e =
    (if l.causes = ⟨false, false, false, false, false⟩ then
        ({ l with speed := 0, braking := false, approach := none, state := .atRest } : Loader).motionStart e
      else if l.causes.dwell then { l with speed := 0, braking := false, approach := none, state := .dwell }
      else { l with speed := 0, braking := false, approach := none, state := .atRest }) :=
  if_congr (StopCauses.isEmpty_iff _) rfl rfl

/-! ### Stop causes (R132, R134) -/

theorem Loader.addCause_of_has {k : StopCause} (has : l.causes.has k = true) : l.addCause e k = l := if_pos has

section
variable {k : StopCause} (has : l.causes.has k = false)
include has

theorem Loader.addCause_of_running (state : l.state = .homing ∨ l.state = .moving) (speed : 0 < l.speed) :
    l.addCause e k = { l with causes := l.causes.put k true, state := .stopping } := by
  unfold Loader.addCause
  rcases state with state | state <;> simp [has, state, speed.ne']

/-- At speed 0 the stop is over at once, and the cause that has entered keeps the loader from starting. -/
theorem Loader.addCause_of_standing (state : l.state = .homing ∨ l.state = .moving) (speed : l.speed = 0) :
    l.addCause e k = { l with
      causes := l.causes.put k true
      speed := 0
      braking := false
      approach := none
      state := if (l.causes.put k true).dwell then .dwell else .atRest } := by
  have full : (l.causes.put k true).isEmpty = false := StopCauses.not_isEmpty_of_has (k := k) (by simp)
  have ends : ({ l with causes := l.causes.put k true, state := .stopping } : Loader).endStop e = _ :=
    Loader.endStop_of_cause e full
  unfold Loader.addCause
  rcases state with state | state <;> simp only [has, state, speed, Bool.false_eq_true, if_false, if_true] <;> exact ends

theorem Loader.addCause_of_waiting (state : l.state = .waitCurtain) :
    l.addCause e k = { l with causes := l.causes.put k true, state := .atRest } := by
  unfold Loader.addCause
  simp [has, state]

end

theorem Loader.removeCause_of_rest {k : StopCause} (has : l.causes.has k = true) (state : l.state = .atRest) :
    l.removeCause e k = ({ l with causes := l.causes.put k false } : Loader).motionStart e := by
  simp only [Loader.removeCause, has, state, if_true]

/-- A DWELL ends with the set empty, and with its own cause, under another one without a motion. -/
theorem Loader.removeCause_of_dwell {k : StopCause} (has : l.causes.has k = true) (state : l.state = .dwell) :
    l.removeCause e k =
      (if l.causes.put k false = ⟨false, false, false, false, false⟩ ∨ k = .dwell then
        ({ l with causes := l.causes.put k false, state := .atRest } : Loader).motionStart e
      else { l with causes := l.causes.put k false }) := by
  have ends : l.removeCause e k = (if (l.causes.put k false).isEmpty = true then
        ({ l with causes := l.causes.put k false, state := .atRest } : Loader).motionStart e
      else if k = .dwell then { l with causes := l.causes.put k false, state := .atRest }
      else { l with causes := l.causes.put k false }) := by
    simp only [Loader.removeCause, has, state, if_true]
  rw [ends]
  by_cases empty : (l.causes.put k false).isEmpty = true
  · rw [if_pos empty, if_pos (.inl ((StopCauses.isEmpty_iff _).1 empty))]
  · rw [if_neg empty]
    by_cases dwell : k = .dwell
    · rw [if_pos dwell, if_pos (.inr dwell)]
      exact (Loader.motionStart_of_cause e (by simpa using empty)).symm
    · rw [if_neg dwell, if_neg (not_or_intro (mt (StopCauses.isEmpty_iff _).2 empty) dwell)]

end

/-! ### The statement -/

/-- The dwell check that does not stall lets a DWELL go whose zones have recovered, and stops a lagging push, which is judged by
the band of the part as it was (R136). -/
theorem Loader.dwellCheck_of_not_overstays (e : Bool) {recovered lagging : Bool} {l : Loader} (h : ¬ l.Overstays) :
    let kept := if l.state = .dwell ∧ (l.part.dwellBand = 0 ∨ recovered = true) then l.counted.removeCause e .dwell
      else l.counted
    l.dwellCheck e recovered lagging
      = (if kept.state = .moving ∧ kept.direction = .inward ∧ 0 < l.part.dwellBand ∧ lagging = true then kept.addCause e .dwell
        else kept, false) := by
  intro kept
  have band : kept.part.dwellBand = l.part.dwellBand := by
    dsimp only [kept]
    split
    · exact (l.counted.removeCause_keepsDwell e .dwell).band
    · rfl
  rw [← band]
  exact Loader.dwellCheck_of_stays e h rfl

/-- Settles O9: each operation by the loader's state. -/
theorem stopCausesAndMotionStartsActOnTheLoader : Obligations.StopCausesAndMotionStartsActOnTheLoader := by
  intro e l ready
  refine ⟨⟨fun h => Loader.motionStart_of_not_ready e h, fun h there => Loader.motionStart_at_target e h there,
      fun h elsewhere => Loader.motionStart_elsewhere e h elsewhere⟩,
    ⟨fun p known => Loader.beginMotion_known known, fun unknown released => ?_, fun unknown active elsewhere => ?_,
      fun unknown active there => ?_⟩, l.endStop_eq e, fun k => ?_⟩
  · rw [Loader.beginMotion_unknown unknown, if_neg (by simp [released])]
  · rw [Loader.beginMotion_unknown unknown, if_pos active]
    exact Loader.endHoming_elsewhere elsewhere
  · rw [Loader.beginMotion_unknown unknown, if_pos active]
    exact Loader.endHoming_at_target there
  · intro entered gone
    refine ⟨Loader.addCause_of_has e, fun has => ⟨Loader.addCause_of_running e has, Loader.addCause_of_standing e has,
        Loader.addCause_of_waiting e has, fun idle => ?_⟩,
      Loader.removeCause_of_not_has e, fun has => ⟨Loader.removeCause_of_rest e has, Loader.removeCause_of_dwell e has,
        Loader.removeCause_of_idle e k⟩,
      fun recovered lagging => ⟨Loader.dwellCheck_of_overstays e, Loader.dwellCheck_of_not_overstays e⟩,
      l.inMotion_iff, rfl, rfl⟩
    refine Loader.addCause_of_idle e k ?_ ?_ ?_ <;> rcases idle with h | h | h | h <;> simp [h]

end Sys2Proof.Machine
end

section
/-! PROOFS. What every change of the loader and of the curtain keeps, every operation of the loader keeps, its ticks apart. -/

namespace Sys2Proof.Machine

/-! ### Laws of the loader and the curtain -/

/-- From `l` to `m` the loader moves as it did: state, speed, position and target stay, and no loss of the curtain enters the
set. -/
structure Loader.SameMotion (l m : Loader) : Prop where
  state : m.state = l.state
  speed : m.speed = l.speed
  position : m.position = l.position
  target : m.part.target = l.part.target
  curtain : m.causes.curtain = true → l.causes.curtain = true

/-- The loader is under way to its target or home. -/
def LoaderState.isUnderWay : LoaderState → Bool
  | .homing | .moving => true
  | .atRest | .waitCurtain | .stopping | .dwell | .stalled => false

theorem LoaderState.isUnderWay_iff (st : LoaderState) : st.isUnderWay = true ↔ st = .homing ∨ st = .moving := by
  cases st <;> simp [LoaderState.isUnderWay]

/-- A cause that enters leaves no loader under way, whether the curtain is established or not. -/
theorem Loader.addCause_stops {e : Bool} {l : Loader} {k : StopCause} (has : l.causes.has k = false) (d : Bool) :
    (l.addCause e k).state.isUnderWay = false ∧ l.addCause e k = l.addCause d k := by
  by_cases state : l.state = .homing ∨ l.state = .moving
  · by_cases speed : l.speed = 0
    · simp only [Loader.addCause_of_standing _ has state speed, and_true]
      split <;> rfl
    · simp only [Loader.addCause_of_running _ has state (Nat.pos_of_ne_zero speed), and_true]
      rfl
  · by_cases waits : l.state = .waitCurtain
    · simp only [Loader.addCause_of_waiting _ has waits, and_true]
      rfl
    · have idle := fun b => Loader.addCause_of_idle b k (fun s => state (.inl s)) (fun s => state (.inr s)) waits
      simp only [idle, and_true]
      exact Bool.eq_false_iff.2 (mt l.state.isUnderWay_iff.1 state)

/-- A property of the curtain's state (established or not) and of the loader that the changes of which the loader's operations
are made all keep, as long as the boat parts that are taken are fit for it. Motion begins under an established curtain that is
no stop cause, or goes on from a motion under way. -/
structure LoaderLaw (fit : BoatSpec → Prop) (law : Bool → Loader → Prop) : Prop where
  reset : ∀ level phase, law false { Loader.reset with homeActive := level, tickPhase := phase }
  opened : ∀ {l}, law false l → law true l
  closed : ∀ {l}, (l.state.isUnderWay = true → l.causes.curtain = true) → law true l → law false l
  same : ∀ {e l m}, law e l → l.SameMotion m → law e m
  causes : ∀ {e l} c, l.state.isUnderWay = false → law e l → law e { l with causes := c }
  rests : ∀ {e l st}, st.isStopped = true → l.state.isStopped = true → law e l → law e { l with state := st }
  stands : ∀ {e l st}, st.isStopped = true → law e l → law e { l with state := st, speed := 0 }
  runs : ∀ {e l st}, st.isUnderWay = true → (e = true ∧ l.causes.curtain = false) ∨ l.state.isUnderWay = true → law e l →
    law e { l with state := st, speed := 0 }
  brakes : ∀ {e l}, l.state.isUnderWay = true → 0 < l.speed → law e l → law e { l with state := .stopping }
  targets : ∀ {e l b}, fit b → law e l → law e { l with part := { l.part with target := b.target } }
  home : ∀ {e l}, law e l → law e { l with position := some 0 }

section
variable {fit : BoatSpec → Prop} {law : Bool → Loader → Prop} (L : LoaderLaw fit law) {e : Bool} {l : Loader}
include L

/-! ### Motion starts and their ends -/

theorem LoaderLaw.reached (h : law e l) : law e l.reached :=
  L.same (L.stands (st := .atRest) rfl h) ⟨rfl, rfl, rfl, rfl, fun k => by simp [Loader.reached] at k⟩

theorem LoaderLaw.enterMoving (d : Direction) (free : (e = true ∧ l.causes.curtain = false) ∨ l.state.isUnderWay = true)
    (h : law e l) : law e (l.enterMoving d) :=
  L.same (L.runs (st := .moving) rfl free h) ⟨rfl, rfl, rfl, rfl, id⟩

/-- A motion under way ends at home, or goes on IN from there (R131). -/
theorem LoaderLaw.endHoming (state : l.state.isUnderWay = true) (h : law e l) : law e l.endHoming := by
  have known : law e { l with position := some 0, speed := 0 } :=
    L.same (L.home (L.runs state (.inr state) h)) ⟨rfl, rfl, rfl, rfl, id⟩
  unfold Loader.endHoming
  dsimp only
  split
  · exact L.reached known
  · exact L.enterMoving _ (.inr state) known

theorem LoaderLaw.beginMotion (free : l.causes.curtain = false) (h : law true l) : law true l.beginMotion := by
  have homes : law true { l with state := .homing, direction := .outward, speed := 0, homingTravel := 0 } :=
    L.same (L.runs (st := .homing) rfl (.inl ⟨rfl, free⟩) h) ⟨rfl, rfl, rfl, rfl, id⟩
  unfold Loader.beginMotion
  split
  · exact L.enterMoving _ (.inl ⟨rfl, free⟩) h
  · dsimp only
    split
    · exact L.endHoming rfl homes
    · exact homes

theorem LoaderLaw.motionStart (h : law e l) : law e (l.motionStart e) := by
  unfold Loader.motionStart
  split
  · rename_i start
    obtain ⟨rest, -, -, empty⟩ := start
    have waits : law e { l with state := .waitCurtain } := L.rests rfl (by rw [rest]; rfl) h
    split
    · exact L.same h ⟨rfl, rfl, rfl, rfl, id⟩
    · cases e
      · exact waits
      · exact L.beginMotion (StopCauses.not_has_of_isEmpty .curtain empty) waits
  · exact h

theorem LoaderLaw.endStop (h : law e l) : law e (l.endStop e) := by
  have stopped : ∀ {st : LoaderState}, st.isStopped = true →
      law e { l with speed := 0, braking := false, approach := none, state := st } := fun st =>
    L.same (L.stands st h) ⟨rfl, rfl, rfl, rfl, id⟩
  unfold Loader.endStop
  dsimp only
  split
  · exact L.motionStart (stopped rfl)
  · split
    · exact stopped rfl
    · exact stopped rfl

/-! ### Stop causes that enter and leave -/

theorem LoaderLaw.addCause (k : StopCause) (h : law e l) : law e (l.addCause e k) := by
  cases has : l.causes.has k
  case true =>
    rw [Loader.addCause_of_has e has]
    exact h
  by_cases state : l.state.isUnderWay = true
  · have under := l.state.isUnderWay_iff.1 state
    by_cases speed : l.speed = 0
    · rw [Loader.addCause_of_standing e has under speed]
      have stopped : ∀ {st : LoaderState}, st.isStopped = true → st.isUnderWay = false →
          law e { l with causes := l.causes.put k true, speed := 0, braking := false, approach := none, state := st } :=
        fun st idle => L.same (L.causes (l.causes.put k true) idle (L.stands st h)) ⟨rfl, rfl, rfl, rfl, id⟩
      split
      · exact stopped rfl rfl
      · exact stopped rfl rfl
    · rw [Loader.addCause_of_running e has under (Nat.pos_of_ne_zero speed)]
      exact L.causes _ rfl (L.brakes state (Nat.pos_of_ne_zero speed) h)
  · have idle : l.state.isUnderWay = false := by simpa using state
    by_cases waits : l.state = .waitCurtain
    · rw [Loader.addCause_of_waiting e has waits]
      exact L.causes _ rfl (L.rests (st := .atRest) rfl (by rw [waits]; rfl) h)
    · rw [Loader.addCause_of_idle e k (fun s => by simp [s, LoaderState.isUnderWay] at idle)
        (fun s => by simp [s, LoaderState.isUnderWay] at idle) waits]
      exact L.causes _ idle h

/-- A cause that leaves makes a motion start of a loader at rest or in DWELL (R134). -/
theorem LoaderLaw.removeCause (k : StopCause) (h : law e l) : law e (l.removeCause e k) := by
  have less : law e { l with causes := l.causes.put k false } :=
    L.same h ⟨rfl, rfl, rfl, rfl, by cases k <;> simp [StopCauses.put]⟩
  unfold Loader.removeCause
  split
  · dsimp only
    split
    case h_1 => exact L.motionStart less
    case h_2 state =>
      have rests := L.rests (st := .atRest) rfl (by rw [state]; rfl) less
      split
      · exact L.motionStart rests
      · split
        · exact rests
        · exact less
    all_goals exact less
  · exact h

/-! ### The curtain -/

/-- A loss of the curtain takes the loader out of its way (R135). -/
theorem LoaderLaw.curtainLost (h : law true l) : law false l.curtainLost := by
  unfold Loader.curtainLost
  split
  · cases has : l.causes.has .curtain
    case true =>
      rw [Loader.addCause_of_has false has]
      exact L.closed (fun _ => has) h
    obtain ⟨stops, same⟩ := Loader.addCause_stops (e := false) has true
    exact L.closed (fun under => absurd under (by simp [stops])) (same ▸ L.addCause .curtain h)
  · rename_i still
    refine L.closed (fun under => absurd ((Loader.inMotion_iff l).2 ?_) still) h
    exact (l.state.isUnderWay_iff.1 under).imp_right .inl

/-- An establishment starts a loader that waited for it, with no loss among its causes (R135). -/
theorem LoaderLaw.curtainEstablished (h : law false l) : law true l.curtainEstablished := by
  by_cases waits : l.state = .waitCurtain
  · rw [Loader.curtainEstablished_of_waiting waits]
    exact L.beginMotion rfl (L.same (L.opened h) ⟨rfl, rfl, rfl, rfl, fun k => by simp at k⟩)
  · rw [Loader.curtainEstablished_of_not_waiting waits]
    exact L.removeCause _ (L.opened h)

/-! ### The home switch -/

/-- An activation ends a way home, or a motion OUT (R124, R131, R133). -/
theorem LoaderLaw.homeActivation (h : law e l) : law e (l.homeActivation e) := by
  unfold Loader.homeActivation
  split
  case h_1 state => exact L.endHoming (by rw [state]; rfl) h
  case h_2 state =>
    split
    · exact L.endHoming (by rw [state]; rfl) h
    · exact h
  case h_3 =>
    split
    · exact L.endStop (L.home h)
    · exact h
  all_goals exact h

/-! ### Parts and the dwell check -/

theorem LoaderLaw.amend (maxSpeed : Nat) (a : AmendFields) (h : law e l) : law e (l.amend maxSpeed a) := by
  unfold Loader.amend
  split
  · exact L.same h ⟨rfl, rfl, rfl, rfl, id⟩
  · exact h

theorem LoaderLaw.takePart (b : Option BoatSpec) (boat : ∀ c, b = some c → fit c) (h : law e l) : law e (l.takePart e b) := by
  cases b with
  | none => exact L.same h ⟨rfl, rfl, rfl, rfl, id⟩
  | some b => exact L.motionStart (L.same (L.targets (boat b rfl) h) ⟨rfl, rfl, rfl, rfl, id⟩)

theorem LoaderLaw.leavePart (h : law e l) : law e l.leavePart := by
  have off : l.leavePart.causes.curtain = true → l.causes.curtain = true := fun k => by simp [Loader.leavePart] at k
  by_cases waits : l.state = .waitCurtain ∨ l.state = .dwell
  · have stopped : l.state.isStopped = true := by rcases waits with w | w <;> rw [w] <;> rfl
    exact L.same (L.rests (st := .atRest) rfl stopped h) ⟨if_pos waits, rfl, rfl, rfl, off⟩
  · exact L.same h ⟨if_neg waits, rfl, rfl, rfl, off⟩

/-- The dwell check counts, stalls, lets go and stops (R136). -/
theorem LoaderLaw.dwellCheck (recovered lagging : Bool) (h : law e l) : law e (l.dwellCheck e recovered lagging).1 := by
  have counted : law e l.counted := L.same h ⟨rfl, rfl, rfl, rfl, id⟩
  by_cases stays : l.Overstays
  · rw [Loader.dwellCheck_of_overstays e stays]
    exact L.same (L.causes (l.causes.put .dwell false) rfl (L.stands (st := .stalled) rfl counted)) ⟨rfl, rfl, rfl, rfl, id⟩
  · rw [Loader.dwellCheck_of_not_overstays e stays]
    have stopped : ∀ m, law e m → law e (if m.state = .moving ∧ m.direction = .inward ∧ 0 < l.part.dwellBand
        ∧ lagging = true then m.addCause e .dwell else m) := fun m hm => by
      split
      · exact L.addCause _ hm
      · exact hm
    refine stopped _ ?_
    split
    · exact L.removeCause _ counted
    · exact counted

end

end Sys2Proof.Machine
end

section
/-! PROOFS. A law of the loader and the curtain goes through the work of every boundary. -/

namespace Sys2Proof.Machine

/-! ### Loader, curtain and queue -/

/-- Curtain and loader obey a law, and the boat parts in the queue are fit for it. -/
structure State.Obeys (fit : BoatSpec → Prop) (law : Bool → Loader → Prop) (s : State) : Prop where
  loader : law s.gas.established s.loader
  queue : ∀ g ∈ s.exec.queue, ∀ b, g.boat = some b → fit b

/-- From `s` to `t` loader, curtain and queue stay. -/
structure State.SameBoat (s t : State) : Prop where
  loader : t.loader = s.loader
  established : t.gas.established = s.gas.established
  queue : t.exec.queue = s.exec.queue

theorem State.SameBoat.rfl {s : State} : s.SameBoat s := ⟨Eq.refl _, Eq.refl _, Eq.refl _⟩

theorem State.SameBoat.trans {s t u : State} (h : s.SameBoat t) (k : t.SameBoat u) : s.SameBoat u :=
  ⟨k.loader.trans h.loader, k.established.trans h.established, k.queue.trans h.queue⟩

theorem State.Obeys.of_same {fit : BoatSpec → Prop} {law : Bool → Loader → Prop} {s t : State} (h : s.Obeys fit law)
    (k : s.SameBoat t) : t.Obeys fit law := by
  obtain ⟨loader, queue⟩ := h
  rw [← k.loader, ← k.established] at loader
  rw [← k.queue] at queue
  exact ⟨loader, queue⟩

/-! ### Work that leaves the loader -/

@[simp] theorem State.rampStep_loader (s : State) : s.rampStep.loader = s.loader := by
  rw [s.rampStep_withTube]
  rfl

@[simp] theorem State.countWindow_loader (s : State) : s.countWindow.loader = s.loader := by
  rw [s.countWindow_withTube]
  rfl

theorem State.SameButTube.queue {s t : State} (h : s.SameButTube t) : t.exec.queue = s.exec.queue := by rw [h.exec]

theorem State.rampStep_sameBoat (s : State) : s.SameBoat s.rampStep :=
  ⟨s.rampStep_loader, by rw [s.rampStep_gas], s.rampStep_sameButTube.queue⟩

theorem State.countWindow_sameBoat (s : State) : s.SameBoat s.countWindow :=
  ⟨s.countWindow_loader, by rw [s.countWindow_gas], s.countWindow_sameButTube.queue⟩

theorem State.shareWork_sameBoat (s : State) : s.SameBoat s.shareWork := by
  rw [s.shareWork_eq]
  exact ⟨rfl, rfl, rfl⟩

theorem State.controlWork_sameBoat (s : State) : s.SameBoat s.controlWork := ⟨rfl, rfl, rfl⟩

theorem State.slotWork_sameBoat (s : State) : s.SameBoat s.slotWork := by
  unfold State.slotWork
  dsimp only
  split <;> exact ⟨rfl, rfl, rfl⟩

theorem State.raiseIf_sameBoat (s : State) (c : Bool) (r : BitVec 16) : s.SameBoat (s.raiseIf c r) := by
  constructor <;> simp

theorem State.takeThermal_sameBoat (s : State) (t : Option ThermalSpec) : s.SameBoat (s.takeThermal t) := by
  cases t <;> exact ⟨rfl, rfl, rfl⟩

theorem State.takeGas_sameBoat (s : State) (g : Option GasSpec) : s.SameBoat (s.takeGas g) := by
  cases g <;> exact ⟨rfl, rfl, rfl⟩

theorem State.countJoining_sameBoat (s : State) : s.SameBoat s.countJoining := by
  unfold State.countJoining
  split <;> exact ⟨rfl, rfl, rfl⟩

theorem State.endListening_sameBoat (s : State) : s.SameBoat s.endListening := by
  unfold State.endListening
  split <;> exact ⟨rfl, rfl, rfl⟩

theorem State.beforeOpenOrder_sameBoat (s : State) : s.SameBoat s.beforeOpenOrder := by
  obtain ⟨loader, established, -⟩ := s.beforeOpenOrder_tube
  exact ⟨loader, established, congrArg Executor.queue s.beforeOpenOrder_keeps.2.1⟩

section
variable {fit : BoatSpec → Prop} {law : Bool → Loader → Prop} (L : LoaderLaw fit law) {s : State}
include L

/-! ### The station's moves -/

theorem LoaderLaw.causeLeaves (k : StopCause) (h : s.Obeys fit law) : (s.removeCause k).Obeys fit law :=
  ⟨L.removeCause k h.loader, h.queue⟩

theorem LoaderLaw.enterHeld (h : s.Obeys fit law) : s.enterHeld.Obeys fit law := ⟨L.addCause _ h.loader, h.queue⟩

theorem LoaderLaw.halt (h : s.Obeys fit law) : s.halt.Obeys fit law := by
  unfold State.halt
  dsimp only
  split
  · exact ⟨h.loader, h.queue⟩
  · exact ⟨L.addCause _ h.loader, h.queue⟩

theorem LoaderLaw.report (h : s.Obeys fit law) : s.report.Obeys fit law := by
  unfold State.report
  split
  · exact L.enterHeld h
  · exact h

theorem LoaderLaw.loaderStalled (h : s.Obeys fit law) : s.loaderStalled.Obeys fit law :=
  L.report (h.of_same ⟨rfl, rfl, rfl⟩)

/-- RESUME rests a stalled loader, and takes HOLD out (R150). -/
theorem LoaderLaw.resume (h : s.Obeys fit law) : s.resume.Obeys fit law := by
  have moved : (s.setStation (if s.exec.current.isSome then .running else .idle)).Obeys fit law := ⟨h.loader, h.queue⟩
  unfold State.resume
  generalize s.setStation (if s.exec.current.isSome then .running else .idle) = u at moved
  refine L.causeLeaves _ ?_
  split
  · rename_i stalled
    exact ⟨L.same (L.rests (st := .atRest) rfl (by rw [stalled]; rfl) moved.loader) ⟨rfl, rfl, rfl, rfl, id⟩, moved.queue⟩
  · exact moved

/-! ### The sequence position -/

theorem LoaderLaw.applyShadow (h : s.Obeys fit law) : s.applyShadow.Obeys fit law := by
  unfold State.applyShadow
  split
  · exact ⟨h.loader, h.queue⟩
  · refine ⟨?_, h.queue⟩
    simp only [State.setLoader_gas, State.setGas_gas, Gas.amend_established]
    exact L.amend _ _ h.loader

theorem LoaderLaw.takeUrgent (h : s.Obeys fit law) : s.takeUrgent.Obeys fit law := by
  have finished : ∀ (u : State) (r : UrgentResult), u.Obeys fit law → (u.finishUrgent r).Obeys fit law :=
    fun u r k => ⟨k.loader, k.queue⟩
  unfold State.takeUrgent
  split
  · exact h
  · unfold State.takeSkip
    split
    · split
      · exact finished _ _ ⟨L.addCause _ h.loader, h.queue⟩
      · exact finished _ _ h
    · exact finished _ _ h
  · unfold State.takeHold
    split
    · exact finished _ _ (L.enterHeld h)
    · exact finished _ _ h
  · unfold State.takeResume
    split
    · exact finished _ _ (L.resume h)
    · exact finished _ _ h
  · exact finished _ _ ⟨h.loader, fun g hg => nomatch hg⟩

theorem LoaderLaw.endSegment (c : CurrentSegment) (r : SegmentResult) (h : s.Obeys fit law) :
    (s.endSegment c r).Obeys fit law := ⟨L.leavePart h.loader, h.queue⟩

/-- The head's boat part is fit, and so are those behind it. -/
theorem LoaderLaw.startHead {g : Segment} {rest : List Segment} (h : s.Obeys fit law) (queue : s.exec.queue = g :: rest) :
    (s.startHead g rest).Obeys fit law := by
  have boats : ∀ f ∈ g :: rest, ∀ b, f.boat = some b → fit b := queue ▸ h.queue
  have taken : (s.setExec { s.exec with queue := rest, current := some ⟨g, 0, 0, 0, false⟩ }).Obeys fit law :=
    ⟨h.loader, fun f hf => boats f (List.mem_cons_of_mem _ hf)⟩
  unfold State.startHead
  generalize s.setExec { s.exec with queue := rest, current := some ⟨g, 0, 0, 0, false⟩ } = u at taken
  have parts := (taken.of_same (u.takeThermal_sameBoat g.thermal)).of_same (State.takeGas_sameBoat _ g.gas)
  refine State.Obeys.of_same ?_ (State.raiseIf_sameBoat _ _ _)
  exact ⟨L.takePart _ (boats g List.mem_cons_self) parts.loader, parts.queue⟩

theorem LoaderLaw.afterEnd (h : s.Obeys fit law) : s.afterEnd.Obeys fit law := by
  unfold State.afterEnd
  split
  · split
    · exact ⟨h.loader, h.queue⟩
    · exact L.startHead h ‹_›
  · exact h

theorem LoaderLaw.judgeSegment (h : s.Obeys fit law) : s.judgeSegment.Obeys fit law := by
  unfold State.judgeSegment
  split
  · split
    · split
      · exact L.afterEnd (L.endSegment _ _ h)
      · exact h
    · split
      · exact L.afterEnd (L.endSegment _ _ h)
      · exact h
  · split
    · split
      · exact h
      · exact L.startHead (s := s.setStation .running) ⟨h.loader, h.queue⟩ ‹_›
    · exact h

theorem LoaderLaw.executorSequence (h : s.Obeys fit law) : s.executorSequence.Obeys fit law :=
  L.judgeSegment (L.takeUrgent (L.applyShadow h))

theorem LoaderLaw.endJoining (h : s.Obeys fit law) : s.endJoining.Obeys fit law := by
  unfold State.endJoining
  split
  · split
    · exact L.enterHeld h
    · exact ⟨h.loader, h.queue⟩
  · exact h

/-- In either of its two orders, the sequence position keeps the law. -/
theorem LoaderLaw.sequenceWork (h : s.Obeys fit law) : s.sequenceWork.Obeys fit law := by
  have joinFirst := L.executorSequence (L.endJoining h)
  have joinLast := L.endJoining (L.executorSequence h)
  unfold State.sequenceWork
  split
  · refine State.Obeys.of_same (s := ite _ _ (ite _ _ _)) ?_ ⟨rfl, rfl, rfl⟩
    split
    · exact joinFirst
    · split
      · exact joinFirst
      · exact joinLast
  · exact L.executorSequence h

/-! ### The window start -/

theorem LoaderLaw.judgeCurtain (h : s.Obeys fit law) : s.judgeCurtain.Obeys fit law := by
  refine ⟨?_, by rw [s.judgeCurtain_exec]; exact h.queue⟩
  have loader := h.loader
  rw [s.judgeCurtain_eq]
  show law (s.gas.judged s.curtainGood).established
    (s.loader.handed s.gas.established (s.gas.judged s.curtainGood).established)
  cases before : s.gas.established <;> cases after : (s.gas.judged s.curtainGood).established <;> rw [before] at loader
  case false.true => exact L.curtainEstablished loader
  case true.false => exact L.curtainLost loader
  all_goals exact loader

theorem LoaderLaw.dwellWork (h : s.Obeys fit law) : s.dwellWork.Obeys fit law := by
  unfold State.dwellWork
  dsimp only
  have checked : ∀ recovered lagging,
      (s.setLoader (s.loader.dwellCheck s.gas.established recovered lagging).1).Obeys fit law :=
    fun _ _ => ⟨L.dwellCheck _ _ h.loader, h.queue⟩
  split
  · exact L.loaderStalled (checked _ _)
  · exact checked _ _

omit L in
theorem State.Obeys.doIf {f : State → State} (c : Bool) (work : ∀ u : State, u.Obeys fit law → (f u).Obeys fit law)
    (h : s.Obeys fit law) : (s.doIf c f).Obeys fit law := by
  cases c
  · exact h
  · exact work s h

/-- Ramp step, curtain judgement and window count, each of them done or not. -/
theorem LoaderLaw.doIfs (ramp curtain count : Bool) (h : s.Obeys fit law) :
    (((s.doIf ramp State.rampStep).doIf curtain State.judgeCurtain).doIf count State.countWindow).Obeys fit law :=
  .doIf count (fun u k => k.of_same u.countWindow_sameBoat) (.doIf curtain (fun _ => L.judgeCurtain)
    (.doIf ramp (fun u k => k.of_same u.rampStep_sameBoat) h))

theorem LoaderLaw.orderedWork (o : WindowOrder) (h : s.Obeys fit law) : (s.orderedWork o).Obeys fit law :=
  L.doIfs _ _ _ (L.dwellWork (L.doIfs _ _ _ h))

/-- A window start keeps the law, whatever the order of its open work (log entry 3). -/
theorem LoaderLaw.windowBlocks (h : s.Obeys fit law) : s.windowBlocks.Obeys fit law := by
  obtain ⟨o, k, order⟩ := s.beforeOpenOrder.openOrderWork_is_ordered
  have ordered := L.orderedWork o (h.of_same s.beforeOpenOrder_sameBoat)
  rw [s.windowBlocks_eq, order]
  exact ⟨ordered.loader, ordered.queue⟩

theorem LoaderLaw.windowStartWork (length : Nat) (h : s.Obeys fit law) : (s.windowStartWork length).Obeys fit law :=
  L.windowBlocks (State.Obeys.of_same (s := s.setTimer (s.timer.windowStart length)) ⟨h.loader, h.queue⟩
    (State.countJoining_sameBoat _))

/-! ### Boundaries -/

theorem LoaderLaw.cutOffPositions (length : Nat) (h : s.Obeys fit law) : (s.cutOffPositions length).Obeys fit law :=
  .doIf _ (fun u k => k.of_same u.controlWork_sameBoat) (.doIf _ (fun u k => k.of_same u.shareWork_sameBoat)
    (.doIf _ (fun _ => L.sequenceWork) h))

theorem LoaderLaw.raisePosition (h : s.Obeys fit law) : s.raisePosition.Obeys fit law := by
  unfold State.raisePosition
  dsimp only
  split
  · exact h.of_same s.slotWork_sameBoat
  split
  · exact L.sequenceWork h
  split
  · exact h.of_same s.shareWork_sameBoat
  split
  · exact h.of_same s.controlWork_sameBoat
  · exact h

theorem LoaderLaw.listeningBoundary (h : s.Obeys fit law) : s.listeningBoundary.Obeys fit law := by
  have counted : s.countUp.endListening.Obeys fit law :=
    State.Obeys.of_same (s := s.countUp) ⟨h.loader, h.queue⟩ (State.endListening_sameBoat _)
  unfold State.listeningBoundary
  dsimp only
  split
  · split
    · exact L.windowBlocks ⟨counted.loader, counted.queue⟩
    · exact counted
  · exact counted

theorem LoaderLaw.boundaryWork (h : s.Obeys fit law) : s.boundaryWork.Obeys fit law := by
  have counted : s.countUp.Obeys fit law := ⟨h.loader, h.queue⟩
  unfold State.boundaryWork
  split
  · exact h
  · exact L.listeningBoundary h
  · unfold State.phasedBoundary
    dsimp only
    split
    · exact L.windowStartWork _ (L.cutOffPositions _ counted)
    · exact L.raisePosition counted

theorem LoaderLaw.boundary (h : s.Obeys fit law) : s.boundary.Obeys fit law := by
  have work := L.boundaryWork h
  unfold State.boundary
  dsimp only
  split
  · exact ⟨work.loader, work.queue⟩
  · exact work

theorem LoaderLaw.boundaries : ∀ (k : Nat) {s : State}, s.Obeys fit law → (State.boundaries k s).Obeys fit law
  | 0, _, h => h
  | k + 1, _, h => LoaderLaw.boundaries k (L.boundary h)

/-! ### The mains -/

theorem LoaderLaw.zeroCross (e : Nat) (h : s.Obeys fit law) : (s.zeroCross e).Obeys fit law := by
  have restored : (s.setTimer { s.timer with mains := .present }).Obeys fit law := ⟨h.loader, h.queue⟩
  unfold State.zeroCross
  split
  · exact h
  split
  · dsimp only
    split
    · exact restored
    · exact L.boundary restored
  · split
    · exact L.boundary h
    split
    · exact h
    · exact L.boundaries _ h

theorem LoaderLaw.loseMains (h : s.Obeys fit law) : s.loseMains.Obeys fit law := by
  have lost : ((s.setTimer { s.timer with mains := .lost }).raise reasonMainsLost).Obeys fit law := ⟨h.loader, h.queue⟩
  unfold State.loseMains
  split
  · have work := L.boundaryWork (L.boundaryWork (L.boundaryWork lost))
    exact ⟨work.loader, work.queue⟩
  · exact h

theorem LoaderLaw.substitute (h : s.Obeys fit law) : s.substitute.Obeys fit law := by
  unfold State.substitute
  split
  · exact L.boundary h
  · exact h

end

end Sys2Proof.Machine
end

section
/-! PROOFS. A law of the loader and the curtain goes through every command but the loader's ticks. -/

namespace Sys2Proof.Machine

/-! ### The commands that leave loader, curtain and queue -/

/-- From `s` to `t` loader, curtain, queue and configuration stay, and no station becomes UNCONFIGURED. -/
structure State.LeavesBoat (s t : State) : Prop where
  boat : s.SameBoat t
  store : t.sup.store = s.sup.store
  unconfigured : t.sup.station = .unconfigured → s.sup.station = .unconfigured

theorem State.LeavesBoat.rfl {s : State} : s.LeavesBoat s := ⟨.rfl, Eq.refl _, id⟩

theorem State.LeavesBoat.trans {s t u : State} (h : s.LeavesBoat t) (k : t.LeavesBoat u) : s.LeavesBoat u :=
  ⟨h.boat.trans k.boat, k.store.trans h.store, h.unconfigured ∘ k.unconfigured⟩

theorem State.reply_leavesBoat (s : State) (r : ResultCode) (data : List Byte) : s.LeavesBoat (s.reply r data) :=
  ⟨⟨rfl, rfl, rfl⟩, rfl, id⟩

theorem State.endTransaction_leavesBoat (s : State) : s.LeavesBoat s.endTransaction := ⟨⟨rfl, rfl, rfl⟩, rfl, id⟩

theorem State.command_leavesBoat {s : State} {code : Byte} {act : State → State} (h : ∀ u : State, u.LeavesBoat (act u)) :
    s.LeavesBoat (s.command code act) := by
  unfold State.command
  split
  · exact s.endTransaction_leavesBoat.trans (h _)
  · exact .rfl

/-- The host's commands that act on the host port, or on the executor beside its queue. -/
theorem exec_leavesBoat_of_host {c : Instr}
    (hc : c ∈ [Instr.nop, .amend, .urgent, .readStatus, .readZone, .readLoader, .readPeer, .readQueue, .readOutcome,
      .clearReasons, .setMask, .setLowMark]) {s t : State} (e : exec c s = .next t) : s.LeavesBoat t := by
  simp only [List.mem_cons, List.not_mem_nil, or_false] at hc
  rcases hc with rfl | rfl | rfl | rfl | rfl | rfl | rfl | rfl | rfl | rfl | rfl | rfl
  all_goals
    cases e
    refine State.command_leavesBoat fun u => ?_
    repeat' split
    all_goals exact ⟨⟨rfl, rfl, rfl⟩, rfl, id⟩

theorem execResetTrip_leavesBoat {s t : State} (e : execResetTrip s = .next t) : s.LeavesBoat t := by
  cases e
  refine State.command_leavesBoat fun u => ?_
  dsimp only
  repeat' split
  all_goals exact ⟨⟨rfl, rfl, rfl⟩, rfl, id⟩

/-- What arrives on the bank line reaches timer, bank link and reason set. -/
theorem State.frameArrives_blocks (s : State) (f : CanFrame) :
    ∃ timer bank host, s.frameArrives f = { s with timer := timer, bank := bank, host := host } := by
  have announce : ∀ (i : StationNo) (data : List Byte),
      ∃ timer bank host, s.announceFrom i data = { s with timer := timer, bank := bank, host := host } := fun i data => by
    unfold State.announceFrom
    split
    · exact ⟨_, _, _, rfl⟩
    split
    · exact ⟨s.timer, s.bank, _, rfl⟩
    split
    · obtain ⟨timer, accepted⟩ := s.acceptAnnounce_blocks i _
      exact ⟨_, _, _, accepted⟩
    · exact ⟨_, _, _, rfl⟩
  have leave : ∀ (i : StationNo) (data : List Byte),
      ∃ timer bank host, s.leaveFrom i data = { s with timer := timer, bank := bank, host := host } := fun i data => by
    unfold State.leaveFrom State.acceptLeave
    split
    · split
      · exact ⟨s.timer, s.bank, _, rfl⟩
      split
      · exact ⟨_, _, _, State.raiseIf_eq _ _ _⟩
      · exact ⟨s.timer, s.bank, _, rfl⟩
    · exact ⟨_, _, _, rfl⟩
  unfold State.frameArrives
  split
  · exact ⟨_, _, _, rfl⟩
  split
  · exact ⟨_, _, _, rfl⟩
  · split
    · exact ⟨s.timer, _, _, rfl⟩
    · exact announce _ _
  · split
    · exact ⟨s.timer, _, _, rfl⟩
    · exact leave _ _

theorem State.frameArrives_leavesBoat (s : State) (f : CanFrame) : s.LeavesBoat (s.frameArrives f) := by
  obtain ⟨timer, bank, host, arrived⟩ := s.frameArrives_blocks f
  rw [arrived]
  exact ⟨⟨rfl, rfl, rfl⟩, rfl, id⟩

theorem State.beginTransaction_leavesBoat (s : State) : s.LeavesBoat s.beginTransaction := by
  unfold State.beginTransaction
  split <;> exact ⟨⟨rfl, rfl, rfl⟩, rfl, id⟩

theorem State.clockByte_leavesBoat (s : State) (b : Byte) : s.LeavesBoat (s.clockByte b) := by
  unfold State.clockByte
  split <;> exact ⟨⟨rfl, rfl, rfl⟩, rfl, id⟩

/-- The ends of transmissions and of transactions, the burnout test and the release of HALT reach other blocks. -/
theorem exec_leavesBoat_of_input {c : Instr}
    (hc : c ∈ [Instr.announceSent, .transmitAttemptFail, .leaveSent, .haltRelease, .frameError, .unknownCommand,
      .chipSelectReleaseDiscarding]) {s t : State} (e : exec c s = .next t) : s.LeavesBoat t := by
  simp only [List.mem_cons, List.not_mem_nil, or_false] at hc
  rcases hc with rfl | rfl | rfl | rfl | rfl | rfl | rfl
  all_goals
    cases e
    repeat' split
    all_goals exact ⟨⟨rfl, rfl, rfl⟩, rfl, id⟩

/-- The commands that reach neither loader, curtain, queue nor configuration, all together. -/
def leavesTheBoat : Instr → Bool
  | .nop | .amend | .urgent | .readStatus | .readZone | .readLoader | .readPeer | .readQueue | .readOutcome | .clearReasons
  | .setMask | .setLowMark | .resetTrip | .transactionBegin | .frameError | .unknownCommand | .byteTime _
  | .chipSelectReleaseDiscarding | .announceSent | .transmitAttemptFail | .leaveSent | .announceArrival _ | .leaveArrival _
  | .burnoutTest _ | .haltRelease => true
  | _ => false

theorem exec_leavesBoat {c : Instr} (h : leavesTheBoat c = true) {s t : State} (e : exec c s = .next t) : s.LeavesBoat t := by
  cases c with
  | nop | amend | urgent | readStatus | readZone | readLoader | readPeer | readQueue | readOutcome | clearReasons | setMask
  | setLowMark => exact exec_leavesBoat_of_host (by decide) e
  | announceSent | transmitAttemptFail | leaveSent | haltRelease | frameError | unknownCommand
  | chipSelectReleaseDiscarding => exact exec_leavesBoat_of_input (by decide) e
  | resetTrip => exact execResetTrip_leavesBoat e
  | announceArrival frame | leaveArrival frame => cases e; exact s.frameArrives_leavesBoat frame
  | transactionBegin => cases e; exact s.beginTransaction_leavesBoat
  | byteTime b => cases e; exact s.clockByte_leavesBoat b
  | burnoutTest loopOhms => cases e; exact ⟨⟨rfl, rfl, rfl⟩, rfl, id⟩
  | _ => nomatch h

theorem State.configure_sameBoat (s : State) (r : ResultCode) (c : Store) (echo : List Byte) :
    s.SameBoat (s.configure r c echo) := by
  unfold State.configure
  split <;> exact ⟨rfl, rfl, rfl⟩

/-- A conversion reaches loader, curtain and queue by its reports alone (R57, R85). -/
theorem State.conversionComplete_keeps {P : State → Prop} (same : ∀ u v : State, u.SameBoat v → P u → P v)
    (report : ∀ u : State, P u → P u.report) {s : State} (m : Int) (h : P s) : P (s.conversionComplete m) := by
  have boat : ∀ {u v : State}, P u → u.SameBoat v → P v := fun k b => same _ _ b k
  have raised : ∀ (u : State) (c : Bool) (r : BitVec 16), P u → P (u.raiseIf c r) := fun u c r k => boat k (u.raiseIf_sameBoat c r)
  have control : ∀ (u : State) (z : ZoneId) (r : Reading), P u → P (u.controlConverted z r) := fun u z r k => by
    unfold State.controlConverted
    split
    · exact raised _ _ _ (boat k ⟨rfl, rfl, rfl⟩)
    · exact k
  have limit : ∀ (u : State) (z : ZoneId) (r : Reading), P u → P (u.limitConverted z r) := fun u z r k => by
    unfold State.limitConverted
    split
    · exact report _ (boat k ⟨rfl, rfl, rfl⟩)
    · exact k
  unfold State.conversionComplete
  split
  · exact control _ _ _ (boat h ⟨rfl, rfl, rfl⟩)
  · exact limit _ _ _ (boat h ⟨rfl, rfl, rfl⟩)
  · exact raised _ _ _ (boat h ⟨rfl, rfl, rfl⟩)
  · exact boat h ⟨rfl, rfl, rfl⟩
  · exact boat h ⟨rfl, rfl, rfl⟩
  · exact raised _ _ _ (boat h ⟨rfl, rfl, rfl⟩)

/-! ### The commands that reach the loader -/

section
variable {fit : BoatSpec → Prop} {law : Bool → Loader → Prop} {s : State}

theorem State.Obeys.command {code : Byte} {act : State → State} (work : ∀ u : State, u.store = s.store → u.Obeys fit law →
    (act u).Obeys fit law) (h : s.Obeys fit law) : (s.command code act).Obeys fit law := by
  unfold State.command
  split
  · exact work _ rfl (h.of_same s.endTransaction_leavesBoat.boat)
  · exact h

/-- A record joins the queue as the configuration clamps it (R142). -/
theorem State.Obeys.append {t : State} (h : s.Obeys fit law) (boats : ∀ (g : Segment) b, (g.clamp s.store).boat = some b → fit b)
    (e : execAppend s = .next t) : t.Obeys fit law := by
  cases e
  refine State.Obeys.command (fun u store k => ?_) h
  split
  · exact ⟨k.loader, k.queue⟩
  split
  · exact ⟨k.loader, k.queue⟩
  · refine ⟨k.loader, fun g hg b hb => ?_⟩
    rcases List.mem_append.1 hg with queued | last
    · exact k.queue g queued b hb
    · rw [List.mem_singleton.1 last] at hb
      exact boats _ b (store ▸ hb)

variable (L : LoaderLaw fit law)
include L

/-- START may find the curtain established, at a minimum of 0, and HALT asserted (R118, R161, R163). -/
theorem LoaderLaw.begin (h : s.Obeys fit law) : s.begin.Obeys fit law := by
  have started : ∀ u : State, u.gas.established = (s.gas.established || decide (s.store.gas.curtainMin = 0)) →
      u.loader = s.loader → u.exec.queue = s.exec.queue → (if u.sup.haltAsserted then u.halt else u).Obeys fit law := by
    intro u curtain loader queue
    have k : u.Obeys fit law := by
      have h' := h.loader
      refine ⟨?_, queue ▸ h.queue⟩
      rw [curtain, loader]
      cases before : s.gas.established <;> rw [before] at h'
      · cases decide (s.store.gas.curtainMin = 0)
        · exact h'
        · exact L.opened h'
      · exact h'
    split
    · exact L.halt k
    · exact k
  exact started _ rfl rfl rfl

theorem LoaderLaw.clearHalt (h : s.Obeys fit law) : s.clearHaltToHeld.Obeys fit law := L.causeLeaves _ (L.enterHeld h)

theorem LoaderLaw.conversionComplete (m : Int) (h : s.Obeys fit law) : (s.conversionComplete m).Obeys fit law :=
  State.conversionComplete_keeps (P := State.Obeys fit law) (fun _ _ k h => h.of_same k) (fun _ => L.report) m h

/-- Every command but a motion tick keeps the law, as long as the boat parts that an APPEND may store are fit for it. -/
theorem LoaderLaw.exec (boats : ∀ (g : Segment) b, (g.clamp s.store).boat = some b → fit b) {c : Instr} {t : State}
    (noTick : c ≠ .motionTick ∧ c ≠ .speedUpdate) (e : Machine.exec c s = .next t) (h : s.Obeys fit law) :
    t.Obeys fit law := by
  have boundary : ∀ b : Bool, (if b then s.boundary else s).Obeys fit law := fun b => by
    cases b
    · exact h
    · exact L.boundary h
  have empty : ∀ g ∈ ([] : List Segment), ∀ b, g.boat = some b → fit b := fun g hg => nomatch hg
  cases c with
  | motionTick => exact absurd rfl noTick.1
  | speedUpdate => exact absurd rfl noTick.2
  | hardReset straps => cases e; exact ⟨L.reset _ _, empty⟩
  | restart => cases e; exact h.command fun u _ _ => ⟨L.reset _ _, empty⟩
  | setBank | setGas | setLoader =>
    cases e
    exact h.command fun u _ k => k.of_same (u.configure_sameBoat _ _ _)
  | setZone | setBand =>
    cases e
    refine h.command fun u _ k => ?_
    dsimp only
    split
    · exact ⟨k.loader, k.queue⟩
    · exact k.of_same (u.configure_sameBoat _ _ _)
  | start =>
    cases e
    refine h.command fun u _ k => ?_
    split
    · split
      · exact ⟨k.loader, k.queue⟩
      · exact (L.begin k).of_same (State.reply_leavesBoat _ _ _).boat
    · exact ⟨k.loader, k.queue⟩
  | append => exact h.append boats e
  | clearHalt =>
    cases e
    refine h.command fun u _ k => ?_
    split
    · exact (L.clearHalt k).of_same (State.reply_leavesBoat _ _ _).boat
    · exact ⟨k.loader, k.queue⟩
  | haltAssert =>
    cases e
    split
    · exact h
    · dsimp only
      split
      · exact ⟨h.loader, h.queue⟩
      · exact L.halt ⟨h.loader, h.queue⟩
  | homeSwitchActivation =>
    cases e
    split
    · exact h
    · exact ⟨L.homeActivation (L.same h.loader ⟨rfl, rfl, rfl, rfl, id⟩), h.queue⟩
  | homeSwitchRelease => cases e; exact ⟨L.same h.loader ⟨rfl, rfl, rfl, rfl, id⟩, h.queue⟩
  | conversionComplete measured => cases e; exact L.conversionComplete measured h
  | zeroCrossEdge elapsed => cases e; exact L.zeroCross elapsed h
  | mainsLost => cases e; exact L.loseMains h
  | substituteBoundary => cases e; exact L.substitute h
  | listeningEnd | firstWindowStart | windowStart | ownSlot | sequencePosition | sharePosition | controlPosition =>
    cases e
    exact boundary _
  | _ => exact h.of_same (exec_leavesBoat rfl e).boat

end

end Sys2Proof.Machine
end

section
/-! PROOFS. The steps of a motion tick, and the statement about them (R127, R128, R131, R137). -/

namespace Sys2Proof.Machine

/-! ### One step (R128) -/

section
variable {l : Loader} {p : Nat} (stroke : Nat)

theorem Loader.stepOnce_inward (known : l.position = some p) (direction : l.direction = .inward) (short : p < l.part.target) :
    l.stepOnce stroke = (if p + 1 = l.part.target then ({ l with position := some (p + 1), stepOut := true } : Loader).reached
      else { l with position := some (p + 1), stepOut := true }, false) := by
  simp only [Loader.stepOnce, known, direction, short, if_true]

theorem Loader.stepOnce_outward (known : l.position = some p) (direction : l.direction = .outward) (short : l.part.target < p) :
    l.stepOnce stroke = (if p - 1 = l.part.target then ({ l with position := some (p - 1), stepOut := true } : Loader).reached
      else { l with position := some (p - 1), stepOut := true }, false) := by
  simp only [Loader.stepOnce, known, direction, short, if_true]

/-- No step goes past the target. -/
theorem Loader.stepOnce_past (known : l.position = some p)
    (past : (l.direction = .inward ∧ l.part.target ≤ p) ∨ (l.direction = .outward ∧ p ≤ l.part.target)) :
    l.stepOnce stroke = (l, false) := by
  rcases past with ⟨direction, past⟩ | ⟨direction, past⟩ <;>
    simp only [Loader.stepOnce, known, direction, Nat.not_lt.2 past, if_false]

theorem Loader.stepOnce_unknown (unknown : l.position = none) (within : l.homingTravel < stroke + 500) :
    l.stepOnce stroke = ({ l with homingTravel := l.homingTravel + 1, stepOut := true }, false) := by
  simp only [Loader.stepOnce, unknown]
  exact if_neg (by omega)

/-- A way home longer than the stroke and 500 is a stall. -/
theorem Loader.stepOnce_stall (unknown : l.position = none) (beyond : stroke + 500 ≤ l.homingTravel) :
    l.stepOnce stroke = (l.stall, true) := by
  simp only [Loader.stepOnce, unknown]
  exact if_pos (by omega)

/-- What a step does: it passes, changes the position by one toward the target, counts on the way home, or stalls there. -/
theorem Loader.stepOnce_cases (l : Loader) :
    l.stepOnce stroke = (l, false)
      ∨ (∃ p q, l.position = some p ∧ (q ≤ p ∨ q ≤ l.part.target)
          ∧ (l.stepOnce stroke = (({ l with position := some q, stepOut := true } : Loader).reached, false)
            ∨ l.stepOnce stroke = ({ l with position := some q, stepOut := true }, false)))
      ∨ (l.position = none ∧ (l.stepOnce stroke = ({ l with homingTravel := l.homingTravel + 1, stepOut := true }, false)
          ∨ l.stepOnce stroke = (l.stall, true))) := by
  obtain unknown | ⟨p, known⟩ := Option.eq_none_or_eq_some l.position
  · refine .inr (.inr ⟨unknown, ?_⟩)
    by_cases within : l.homingTravel < stroke + 500
    · exact .inl (Loader.stepOnce_unknown stroke unknown within)
    · exact .inr (Loader.stepOnce_stall stroke unknown (by omega))
  have moved : ∀ {q : Nat} {c : Prop} [Decidable c], (q ≤ p ∨ q ≤ l.part.target) →
      l.stepOnce stroke = (if c then ({ l with position := some q, stepOut := true } : Loader).reached
        else { l with position := some q, stepOut := true }, false) →
      ∃ p q, l.position = some p ∧ (q ≤ p ∨ q ≤ l.part.target)
        ∧ (l.stepOnce stroke = (({ l with position := some q, stepOut := true } : Loader).reached, false)
          ∨ l.stepOnce stroke = ({ l with position := some q, stepOut := true }, false)) := by
    intro q c _ near step
    refine ⟨p, q, known, near, ?_⟩
    rw [step]
    split
    · exact .inl rfl
    · exact .inr rfl
  have either : l.direction = .inward ∨ l.direction = .outward := by
    cases l.direction with
    | inward => exact .inl rfl
    | outward => exact .inr rfl
  obtain direction | direction := either
  · by_cases short : p < l.part.target
    · exact .inr (.inl (moved (.inr short) (Loader.stepOnce_inward stroke known direction short)))
    · exact .inl (Loader.stepOnce_past stroke known (.inl ⟨direction, by omega⟩))
  · by_cases short : l.part.target < p
    · exact .inr (.inl (moved (.inl (Nat.sub_le p 1)) (Loader.stepOnce_outward stroke known direction short)))
    · exact .inl (Loader.stepOnce_past stroke known (.inr ⟨direction, by omega⟩))

/-! ### The steps of a tick -/

/-- The loader of a tick before its steps: the pattern has advanced, and no pulse is out. -/
def Loader.ticked (l : Loader) : Loader :=
  { l with stepOut := false, pattern := if l.pattern < 100 then l.pattern + 1 else 1 }

/-- The pattern gives the tick a step, at a speed of at most 100. -/
def Loader.Steps (l : Loader) : Prop := l.speed * (l.ticked.pattern - 1) / 100 < l.speed * l.ticked.pattern / 100

section
variable (speed : 0 < l.speed) (slow : l.speed ≤ 100) (state : l.state = .homing ∨ l.state = .moving ∨ l.state = .stopping)
include speed slow state

theorem Loader.tick_of_not_steps (h : ¬ l.Steps) : l.tick stroke = (l.ticked, false) := by
  have still : patternExtra l.speed l.ticked.pattern 100 = false := decide_eq_false h
  rw [Loader.tick_eq stroke speed slow state]
  exact congrArg (fun b => Loader.issueSteps stroke (if b = true then 1 else 0) (l.ticked, false)) still

theorem Loader.tick_of_steps (h : l.Steps) : l.tick stroke = l.ticked.stepOnce stroke := by
  have step : patternExtra l.speed l.ticked.pattern 100 = true := decide_eq_true h
  rw [Loader.tick_eq stroke speed slow state]
  refine (congrArg (fun b => Loader.issueSteps stroke (if b = true then 1 else 0) (l.ticked, false)) step).trans ?_
  exact if_neg speed.ne'

end

/-- A tick that reports a stall leaves the loader STALLED. -/
theorem Loader.issueSteps_stalled : ∀ (k : Nat) (r : Loader × Bool), (r.2 = true → r.1.state = .stalled ∧ r.1.speed = 0) →
    (Loader.issueSteps stroke k r).2 = true → (Loader.issueSteps stroke k r).1.state = .stalled
  | 0, _, stalled, h => (stalled h).1
  | k + 1, r, stalled, h => by
    refine Loader.issueSteps_stalled k _ ?_ h
    split
    · exact stalled
    · obtain same | ⟨p, q, -, -, reached | moved⟩ | ⟨-, counted | stall⟩ := r.1.stepOnce_cases stroke
      · simp [same]
      · simp [reached]
      · simp [moved]
      · simp [counted]
      · simp [stall, Loader.stall]

theorem Loader.tick_stalled (h : (l.tick stroke).2 = true) : (l.tick stroke).1.state = .stalled := by
  unfold Loader.tick at h ⊢
  dsimp only at h ⊢
  split at h
  · rename_i runs
    rw [if_pos runs]
    exact Loader.issueSteps_stalled stroke _ _ (by simp) h
  · exact absurd h (by simp)

end

/-! ### The tick at the state -/

/-- A stall that is reported raises LOADER_FAULT, and holds a working station (R137, R165). -/
theorem State.tickSteps_eq (s : State) : s.tickSteps = { s with
    loader := Loader.checked s.works (s.loader.tick s.store.loader.stroke)
    sup := { s.sup with
      station := if (s.loader.tick s.store.loader.stroke).2 = true ∧ s.works = true then .held else s.sup.station }
    host := { s.host with
      reasons := s.host.reasons ||| if (s.loader.tick s.store.loader.stroke).2 = true then reasonLoaderFault else 0 } } := by
  have stalls := Loader.tick_stalled (l := s.loader) s.store.loader.stroke
  unfold State.tickSteps
  generalize s.loader.tick s.store.loader.stroke = x at stalls
  by_cases stall : x.2 = true
  · have state := stalls stall
    by_cases works : s.sup.station = .running ∨ s.sup.station = .idle
    · have idle : ∀ e, x.1.addCause e .hold = { x.1 with causes := { x.1.causes with hold := true } } := fun e =>
        Loader.addCause_of_idle e .hold (by simp [state]) (by simp [state]) (by simp [state])
      simp [State.loaderStalled, State.report_eq, works, State.works, stall, State.setLoader, State.raise, idle, Loader.checked]
    · simp [State.loaderStalled, State.report_eq, works, State.works, stall, State.setLoader, State.raise, State.setHost,
        Loader.checked]
  · simp [stall, State.setLoader, Loader.checked]

theorem exec_motionTick_of_phase {s : State} (phase : s.loader.tickPhase < 9) :
    exec .motionTick s = .next (s.tickSteps.setLoader { s.tickSteps.loader with tickPhase := s.loader.tickPhase + 1 }) :=
  congrArg Host.Outcome.next (if_pos (by omega))

/-- A tick without a stall changes the loader alone. -/
theorem exec_motionTick_unstalled {s : State} {m : Loader} (phase : s.loader.tickPhase < 9)
    (tick : s.loader.tick s.store.loader.stroke = (m, false)) :
    exec .motionTick s = .next { s with loader := { m with tickPhase := s.loader.tickPhase + 1 } } := by
  rw [exec_motionTick_of_phase phase, s.tickSteps_eq, tick, Loader.checked_unstalled]
  simp [State.setLoader]

/-- Settles O48: the tick issues no step, or the one step of the loader by its position, direction and target. -/
theorem motionTicksIssueThePattern : Obligations.MotionTicksIssueThePattern := by
  refine ⟨fun s phase => ?_, fun s phase => ?_⟩
  · exact congrArg Host.Outcome.next (if_pos phase).symm
  intro l j steps ticked
  refine ⟨fun rest => ?_, fun speed slow state => ?_⟩
  · exact exec_motionTick_unstalled phase (Loader.tick_rest _ rest)
  have one := fun h : steps => Loader.tick_of_steps s.store.loader.stroke speed slow state h
  have row := fun {m : Loader} (h : steps) (step : l.ticked.stepOnce s.store.loader.stroke = (m, false)) =>
    exec_motionTick_unstalled phase ((one h).trans step)
  refine ⟨fun h => ?_, fun p h known direction short => ?_, fun p h known direction short => ?_,
    fun p h known direction there => ?_, fun p h known direction there => ?_, fun p h known past => ?_,
    fun h unknown within => ?_, fun h unknown beyond => ?_⟩
  · exact exec_motionTick_unstalled phase (Loader.tick_of_not_steps _ speed slow state h)
  · have step := Loader.stepOnce_inward (l := l.ticked) s.store.loader.stroke known direction (Nat.lt_of_succ_lt short)
    exact row h (step.trans (congrArg (·, false) (if_neg (Nat.ne_of_lt short))))
  · have step := Loader.stepOnce_outward (l := l.ticked) s.store.loader.stroke known direction (Nat.lt_of_succ_lt short)
    exact row h (step.trans (congrArg (·, false) (if_neg (by show ¬ p - 1 = l.part.target; omega))))
  · have step := Loader.stepOnce_inward (l := l.ticked) s.store.loader.stroke known direction (by show p < l.part.target; omega)
    exact row h (step.trans (congrArg (·, false) (if_pos there)))
  · subst there
    have step := Loader.stepOnce_outward (l := l.ticked) s.store.loader.stroke known direction (Nat.lt_succ_self _)
    exact row h (step.trans (congrArg (·, false) (if_pos rfl)))
  · exact row h (Loader.stepOnce_past (l := l.ticked) _ known past)
  · exact row h (Loader.stepOnce_unknown (l := l.ticked) _ unknown within)
  · have tick := (one h).trans (Loader.stepOnce_stall (l := l.ticked) _ unknown beyond)
    refine ⟨_, exec_motionTick_of_phase phase, ?_⟩
    rw [s.tickSteps_eq, tick]
    refine ⟨rfl, rfl, unknown, rfl, ?_, fun works => ?_⟩
    · show (if true = true ∧ s.works = true then StationState.held else s.sup.station) = _
      simp only [State.works, decide_eq_true_eq, true_and]
    · show (l.causes.hold || (true && s.works)) = true
      simp [State.works, works]

end Sys2Proof.Machine
end

section
/-! PROOFS. The speed update by the loader's state, its look-ahead over the bands, and the statement about it (R122, R127, R129 to
R131, R133). -/

namespace Sys2Proof.Machine

/-! ### The count to the next speed update moves nothing -/

/-- The loader at a count of ticks. -/
def Loader.atPhase (k : Nat) (l : Loader) : Loader := { l with tickPhase := k }

section
variable (k : Nat)

theorem Loader.endHoming_atPhase (l : Loader) : (l.atPhase k).endHoming = l.endHoming.atPhase k := by
  unfold Loader.endHoming Loader.atPhase
  dsimp only
  split <;> rfl

theorem Loader.beginMotion_atPhase (l : Loader) : (l.atPhase k).beginMotion = l.beginMotion.atPhase k := by
  obtain unknown | ⟨p, known⟩ := Option.eq_none_or_eq_some l.position
  · rw [Loader.beginMotion_unknown unknown, Loader.beginMotion_unknown (l := l.atPhase k) unknown, apply_ite (Loader.atPhase k)]
    exact if_congr Iff.rfl
      (Loader.endHoming_atPhase k { l with state := .homing, direction := .outward, speed := 0, homingTravel := 0 }) rfl
  · rw [Loader.beginMotion_known known, Loader.beginMotion_known (l := l.atPhase k) known]
    rfl

theorem Loader.motionStart_atPhase (e : Bool) (l : Loader) : (l.atPhase k).motionStart e = (l.motionStart e).atPhase k := by
  by_cases ready : l.Ready
  · by_cases there : l.position = some l.part.target
    · rw [Loader.motionStart_at_target e ready there, Loader.motionStart_at_target (l := l.atPhase k) e ready there]
      rfl
    · rw [Loader.motionStart_elsewhere e ready there, Loader.motionStart_elsewhere (l := l.atPhase k) e ready there,
        apply_ite (Loader.atPhase k)]
      exact if_congr Iff.rfl (Loader.beginMotion_atPhase k { l with state := .waitCurtain }) rfl
  · rw [Loader.motionStart_of_not_ready e ready, Loader.motionStart_of_not_ready (l := l.atPhase k) e ready]

theorem Loader.endStop_atPhase (e : Bool) (l : Loader) : (l.atPhase k).endStop e = (l.endStop e).atPhase k := by
  rw [l.endStop_eq, Loader.endStop_eq, apply_ite (Loader.atPhase k), apply_ite (Loader.atPhase k)]
  exact if_congr Iff.rfl
    (Loader.motionStart_atPhase k e { l with speed := 0, braking := false, approach := none, state := .atRest }) rfl

theorem Loader.speedUpdate_atPhase (e : Bool) (cfg : LoaderConfig) (t : PerEight (Option Band)) (l : Loader) :
    (l.atPhase k).speedUpdate e cfg t = (l.speedUpdate e cfg t).atPhase k := by
  unfold Loader.speedUpdate
  simp only [show (l.atPhase k).state = l.state from rfl, show (l.atPhase k).position = l.position from rfl]
  split
  case h_1 =>
    split
    · rfl
    · rfl
  case h_3 =>
    rw [Loader.endStop_atPhase, apply_ite (Loader.atPhase k)]
    rfl
  all_goals rfl

theorem Loader.stepOnce_atPhase (stroke : Nat) (l : Loader) :
    (l.atPhase k).stepOnce stroke = ((l.stepOnce stroke).1.atPhase k, (l.stepOnce stroke).2) := by
  unfold Loader.stepOnce
  simp only [show (l.atPhase k).state = l.state from rfl, show (l.atPhase k).position = l.position from rfl,
    show (l.atPhase k).direction = l.direction from rfl, show (l.atPhase k).part = l.part from rfl,
    show (l.atPhase k).homingTravel = l.homingTravel from rfl]
  split
  · split
    · split
      · dsimp only
        split <;> rfl
      · rfl
    · split
      · dsimp only
        split <;> rfl
      · rfl
  · split <;> rfl

theorem Loader.issueSteps_atPhase (stroke : Nat) : ∀ (n : Nat) (l : Loader) (b : Bool),
    Loader.issueSteps stroke n (l.atPhase k, b)
      = ((Loader.issueSteps stroke n (l, b)).1.atPhase k, (Loader.issueSteps stroke n (l, b)).2)
  | 0, _, _ => rfl
  | n + 1, l, b => by
    unfold Loader.issueSteps
    by_cases still : l.speed = 0
    · rw [if_pos still, if_pos (show (l.atPhase k).speed = 0 from still)]
      exact Loader.issueSteps_atPhase stroke n l b
    · rw [if_neg still, if_neg (show ¬ (l.atPhase k).speed = 0 from still), Loader.stepOnce_atPhase]
      exact Loader.issueSteps_atPhase stroke n _ _

theorem Loader.tick_of_runs (stroke : Nat) {l : Loader}
    (runs : 0 < l.speed ∧ (l.state = .homing ∨ l.state = .moving ∨ l.state = .stopping)) :
    l.tick stroke = Loader.issueSteps stroke
      (l.speed / 100 + if patternExtra (l.speed % 100) l.ticked.pattern 100 then 1 else 0) (l.ticked, false) := if_pos runs

theorem Loader.tick_atPhase (stroke : Nat) (l : Loader) :
    (l.atPhase k).tick stroke = ((l.tick stroke).1.atPhase k, (l.tick stroke).2) := by
  by_cases runs : 0 < l.speed ∧ (l.state = .homing ∨ l.state = .moving ∨ l.state = .stopping)
  · rw [Loader.tick_of_runs stroke runs, Loader.tick_of_runs (l := l.atPhase k) stroke runs]
    exact Loader.issueSteps_atPhase k stroke _ l.ticked false
  · have rest : l.speed = 0 ∨ (l.state ≠ .homing ∧ l.state ≠ .moving ∧ l.state ≠ .stopping) := by
      rw [not_and_or, Nat.pos_iff_ne_zero, not_not, not_or, not_or] at runs
      exact runs
    rw [Loader.tick_rest stroke rest, Loader.tick_rest (l := l.atPhase k) stroke rest]
    rfl

theorem State.tickSteps_atPhase (s : State) :
    ({ s with loader := s.loader.atPhase k } : State).tickSteps = { s.tickSteps with loader := s.tickSteps.loader.atPhase k } := by
  rw [State.tickSteps_eq, s.tickSteps_eq]
  simp only [Loader.tick_atPhase]
  rfl

end

/-- A tick at count 0 makes the steps that the tenth tick makes. -/
theorem exec_motionTick_of_other_phase (s : State) :
    exec .motionTick { s with loader := { s.loader with tickPhase := 0 } }
      = .next { s.tickSteps with loader := s.tickSteps.loader.atPhase 1 } := by
  rw [exec_motionTick_of_phase (by show 0 < 9; omega), show ({ s.loader with tickPhase := 0 } : Loader) = s.loader.atPhase 0 from rfl,
    s.tickSteps_atPhase]
  rfl

/-- The row at the tenth tick: the same steps, and the speed update of the loader they leave. -/
theorem exec_speedUpdate_of_phase {s : State} (phase : s.loader.tickPhase = 9) :
    exec .speedUpdate s = .next { s.tickSteps with loader :=
      ((s.tickSteps.loader.atPhase 1).speedUpdate s.gas.established s.store.loader s.store.bands).atPhase 0 } := by
  have tenth : s.motionTick = { s.tickSteps with loader :=
      (s.tickSteps.loader.speedUpdate s.tickSteps.gas.established s.tickSteps.store.loader s.tickSteps.store.bands).atPhase 0 } :=
    if_neg (by omega)
  have gas : s.tickSteps.gas = s.gas := (congrArg State.gas s.tickSteps_eq :)
  have store : s.tickSteps.store = s.store := (congrArg State.store s.tickSteps_eq :)
  rw [gas, store] at tenth
  rw [Loader.speedUpdate_atPhase]
  exact congrArg Host.Outcome.next ((if_pos phase).trans tenth)

/-! ### The bands (R122) -/

theorem mem_insertBand (b x : Fin 8 × Band) : ∀ l, x ∈ insertBand b l ↔ x = b ∨ x ∈ l
  | [] => by simp [insertBand]
  | c :: rest => by
    unfold insertBand
    split
    · exact List.mem_cons
    · rw [List.mem_cons, mem_insertBand b x rest, List.mem_cons]
      exact or_left_comm

/-- The bands in order of start are the bands of the table. -/
theorem mem_bandsByStart (t : PerEight (Option Band)) (x : Fin 8 × Band) : x ∈ bandsByStart t ↔ t.get x.1 = some x.2 := by
  have sorted : ∀ l : List (Fin 8 × Band), x ∈ l.foldr insertBand [] ↔ x ∈ l := fun l => by
    induction l with
    | nil => exact Iff.rfl
    | cons b rest ih => rw [List.foldr_cons, mem_insertBand, ih, List.mem_cons]
  obtain ⟨i, b⟩ := x
  rw [bandsByStart, sorted, bandsByIndex, List.mem_filterMap]
  simp

theorem Band.covers_iff (b : Band) (p : Nat) : b.covers p = true ↔ b.first ≤ p ∧ p < b.last := by simp [Band.covers]

/-- The current limit is that of a band at the position, or the maximum speed outside the bands. -/
theorem currentLimit_cases (maxSpeed : Nat) (t : PerEight (Option Band)) (p : Nat) :
    (currentLimit maxSpeed t p = maxSpeed ∧ ∀ i b, t.get i = some b → ¬ (b.first ≤ p ∧ p < b.last))
      ∨ ∃ i b, t.get i = some b ∧ b.first ≤ p ∧ p < b.last ∧ currentLimit maxSpeed t p = b.limit := by
  unfold currentLimit
  split
  case h_1 x found =>
    have covers := (x.2.covers_iff p).1 (List.find?_some (p := fun b : Fin 8 × Band => b.2.covers p) found)
    exact .inr ⟨x.1, x.2, (mem_bandsByStart t x).1 (List.mem_of_find?_eq_some found), covers.1, covers.2, rfl⟩
  case h_2 none =>
    refine .inl ⟨rfl, fun i b at_i covers => ?_⟩
    exact List.find?_eq_none.1 none (i, b) ((mem_bandsByStart t (i, b)).2 at_i) ((b.covers_iff p).2 covers)

theorem Band.nearEdge_eq (b : Band) (d : Direction) : b.nearEdge d = if d = .inward then b.first else b.last - 1 := by
  cases d <;> rfl

theorem Band.entered_iff (b : Band) (d : Direction) (p : Nat) :
    b.entered d p = true ↔ if d = .inward then b.first ≤ p else p < b.last := by
  cases d <;> simp [Band.entered]

/-! ### The look-ahead (R129) -/

/-- A band lies ahead on the way to the target, within the distance at which the boat slows to its limit. -/
def Loader.Ahead (l : Loader) (a p : Nat) (b : Band) : Prop :=
  strictlyBetween (b.nearEdge l.direction) p l.part.target = true
    ∧ absDiff (b.nearEdge l.direction) p ≤ brakingDistance a l.speed b.limit

theorem Loader.ahead_iff (l : Loader) (a p : Nat) (b : Band) : l.Ahead a p b ↔
    let edge := if l.direction = .inward then b.first else b.last - 1
    ((p < edge ∧ edge < l.part.target) ∨ (l.part.target < edge ∧ edge < p))
      ∧ (edge - p) + (p - edge) ≤ ((l.speed - b.limit) * (l.speed + b.limit + a) + 20 * a - 1) / (20 * a) := by
  rw [Loader.Ahead, b.nearEdge_eq, absDiff_eq]
  simp [strictlyBetween, brakingDistance, ceilDiv]

/-- What the look-ahead over bands makes of an aim and a record: the least of the aim and the limits ahead, and the record of the
band that set it. -/
structure Loader.LooksAhead (l : Loader) (a p : Nat) (bands : List (Fin 8 × Band)) (start r : Nat × Option Approach) : Prop where
  le_start : r.1 ≤ start.1
  le_limit : ∀ b ∈ bands, l.Ahead a p b.2 → r.1 ≤ b.2.limit
  kept : r.1 = start.1 → r.2 = start.2
  lowered : r.1 < start.1 → ∃ b ∈ bands, l.Ahead a p b.2 ∧ b.2.limit = r.1 ∧ r.2 = some ⟨b.1, r.1⟩

theorem Loader.foldl_lookAheadBand (l : Loader) (a p : Nat) : ∀ bands start,
    l.LooksAhead a p bands start (bands.foldl (lookAheadBand l a p) start)
  | [], start => ⟨Nat.le_refl _, by simp, fun _ => rfl, fun h => absurd h (Nat.lt_irrefl _)⟩
  | b :: rest, start => by
    have ih := l.foldl_lookAheadBand a p rest (lookAheadBand l a p start b)
    rw [List.foldl_cons]
    generalize rest.foldl (lookAheadBand l a p) (lookAheadBand l a p start b) = r at ih
    by_cases slower : l.Ahead a p b.2 ∧ b.2.limit < start.1
    · obtain ⟨ahead, lower⟩ := slower
      have next : lookAheadBand l a p start b = (b.2.limit, some ⟨b.1, b.2.limit⟩) := if_pos ⟨ahead.1, lower, ahead.2⟩
      rw [next] at ih
      obtain ⟨le, limit, kept, lowered⟩ := ih
      dsimp only at le kept lowered
      refine ⟨by omega, List.forall_mem_cons.2 ⟨fun _ => le, limit⟩, fun same => absurd same (by omega), fun _ => ?_⟩
      rcases Nat.lt_or_eq_of_le le with lt | eq
      · obtain ⟨c, mem, c_ahead⟩ := lowered lt
        exact ⟨c, List.mem_cons_of_mem b mem, c_ahead⟩
      · exact ⟨b, List.mem_cons_self, ahead, eq.symm, by rw [kept eq, eq]⟩
    · have next : lookAheadBand l a p start b = start := if_neg fun ⟨between, lower, near⟩ => slower ⟨⟨between, near⟩, lower⟩
      rw [next] at ih
      obtain ⟨le, limit, kept, lowered⟩ := ih
      refine ⟨le, List.forall_mem_cons.2 ⟨fun ahead => ?_, limit⟩, kept, fun lt => ?_⟩
      · have := not_and.1 slower ahead
        omega
      · obtain ⟨c, mem, c_ahead⟩ := lowered lt
        exact ⟨c, List.mem_cons_of_mem b mem, c_ahead⟩

/-- The approach record that is left while its band has not been entered. -/
def Loader.keptApproach (t : PerEight (Option Band)) (p : Nat) (l : Loader) : Option Approach :=
  match l.approach with
  | none => none
  | some r =>
    match t.get r.band with
    | some b => if b.entered l.direction p then none else some r
    | none => none

/-- The aim before the look-ahead: the part's speed within the maximum, the current limit and the approach record. -/
def Loader.freeAim (cfg : LoaderConfig) (t : PerEight (Option Band)) (p : Nat) (l : Loader) : Nat :=
  match l.keptApproach t p with
  | some r => min (min l.part.speed (min cfg.maxSpeed (currentLimit cfg.maxSpeed t p))) r.limit
  | none => min l.part.speed (min cfg.maxSpeed (currentLimit cfg.maxSpeed t p))

theorem Loader.aim_looksAhead (cfg : LoaderConfig) (t : PerEight (Option Band)) (p : Nat) (l : Loader) :
    l.LooksAhead cfg.accel p (bandsByStart t) (l.freeAim cfg t p, l.keptApproach t p) (l.aim cfg t p) := by
  have start : l.aim cfg t p = (bandsByStart t).foldl (lookAheadBand l cfg.accel p) (l.freeAim cfg t p, l.keptApproach t p) := by
    unfold Loader.aim Loader.freeAim
    change List.foldl _ (match l.keptApproach t p with | none => _ | some r => _, l.keptApproach t p) _ = _
    cases l.keptApproach t p <;> rfl
  rw [start]
  exact l.foldl_lookAheadBand _ _ _ _

/-! ### The speed (R130) -/

theorem moveToward_eq (a aim v : Nat) : moveToward a aim v = if v < aim then min aim (v + a) else max aim (v - a) := by
  unfold moveToward
  split
  · rfl
  · split <;> omega

/-- Braking for the target, the boat creeps at least at 1; otherwise it follows the aim. -/
theorem Loader.updateMoving_eq {cfg : LoaderConfig} {t : PerEight (Option Band)} {p : Nat} {l : Loader} {brakes : Bool}
    (h : (l.braking || decide (absDiff p l.part.target ≤ brakingDistance cfg.accel l.speed 0)) = brakes) :
    l.updateMoving cfg t p = { l with
      approach := (l.aim cfg t p).2
      braking := brakes
      speed := if brakes then max (moveToward cfg.accel 0 l.speed) 1 else moveToward cfg.accel (l.aim cfg t p).1 l.speed } := by
  simp only [Loader.updateMoving, h]
  cases brakes <;> rfl

theorem Loader.speedUpdate_stopping (e : Bool) (cfg : LoaderConfig) (t : PerEight (Option Band)) {l : Loader}
    (state : l.state = .stopping) : l.speedUpdate e cfg t =
      (if l.speed ≤ (if l.causes.halt then cfg.stopStep else cfg.accel) then l.endStop e
        else { l with speed := l.speed - (if l.causes.halt then cfg.stopStep else cfg.accel) }) := by
  simp only [Loader.speedUpdate, state, Nat.sub_eq_zero_iff_le]

/-- Settles O49: the row performs the tick's steps, and the speed update of the loader they leave. -/
theorem speedUpdatesFollowTheAim : Obligations.SpeedUpdatesFollowTheAim := by
  refine ⟨fun s phase => congrArg Host.Outcome.next (if_neg phase), fun s phase => ?_⟩
  refine ⟨_, exec_motionTick_of_other_phase s, ?_⟩
  intro l cfg updates toward distance apart
  have row : ∀ x, l.speedUpdate s.gas.established cfg s.store.bands = x → updates x := by
    rintro _ rfl
    exact exec_speedUpdate_of_phase phase
  refine ⟨fun state => row _ ?_, fun p state known => ?_, fun state unknown => row _ ?_, fun state => ?_,
    fun state => row _ ?_⟩
  · simp only [Loader.speedUpdate, state, moveToward_eq, toward]
  · intro band entered ahead
    have looks := l.aim_looksAhead cfg s.store.bands p
    obtain ⟨le, limits, kept, lowered⟩ := looks
    refine ⟨currentLimit cfg.maxSpeed s.store.bands p, l.keptApproach s.store.bands p, (l.aim cfg s.store.bands p).2,
      (l.aim cfg s.store.bands p).1, ?_⟩
    intro base free
    have start : free = l.freeAim cfg s.store.bands p := by
      simp only [free, Loader.freeAim]
      cases l.keptApproach s.store.bands p <;> rfl
    rw [start]
    refine ⟨currentLimit_cases cfg.maxSpeed s.store.bands p, fun absent => ?_, fun a record gone => ?_,
      fun a b record at_i => ?_, le, fun i b at_i near => ?_, kept, fun lower => ?_, row _ ?_⟩
    · simp only [Loader.keptApproach, absent]
    · have gone : s.store.bands.get a.band = none := gone
      simp only [Loader.keptApproach, record, gone]
    · have there : s.store.bands.get a.band = some b := at_i
      simp only [Loader.keptApproach, record, there]
      exact if_congr (b.entered_iff l.direction p) rfl rfl
    · exact limits (i, b) ((mem_bandsByStart _ (i, b)).2 at_i) ((l.ahead_iff cfg.accel p b).2 near)
    · obtain ⟨⟨i, b⟩, mem, near, limit, record⟩ := lowered lower
      exact ⟨i, b, (mem_bandsByStart _ (i, b)).1 mem, (l.ahead_iff cfg.accel p b).1 near, limit, record⟩
    · have brakes : (l.braking || decide (absDiff p l.part.target ≤ brakingDistance cfg.accel l.speed 0))
          = (l.braking || decide (apart p l.part.target ≤ distance l.speed 0)) := by
        rw [absDiff_eq]
        rfl
      simp only [Loader.speedUpdate, state, known, Loader.updateMoving_eq brakes, moveToward_eq, toward]
  · simp only [Loader.speedUpdate, state, unknown]
  · intro step
    have stops := Loader.speedUpdate_stopping s.gas.established cfg s.store.bands state
    exact ⟨fun faster => row _ (stops.trans (if_neg (Nat.not_le.2 faster))), fun slow => row _ (stops.trans (if_pos slow))⟩
  · rcases state with state | state | state | state <;> simp only [Loader.speedUpdate, state]

end Sys2Proof.Machine
end

section
/-! PROOFS. A law of the loader and the curtain goes through the loader's ticks too, and law L10 (R126, R133, R135, R139). -/

namespace Sys2Proof.Machine

/-! ### Ticks -/

/-- A law that the moves of a tick keep under a configuration: a position that comes no nearer to the stroke's end than where the
boat was or is going, and a speed of a boat in motion that stays within the maximum. -/
structure TickLaw (cfg : LoaderConfig) (law : Bool → Loader → Prop) : Prop where
  moves : ∀ {e l p q}, l.position = some p → q ≤ p ∨ q ≤ l.part.target → law e l → law e { l with position := some q }
  speeds : ∀ {e l v}, l.state.isStopped = false → (1 ≤ cfg.maxSpeed → l.speed ≤ cfg.maxSpeed → v ≤ cfg.maxSpeed) → law e l →
    law e { l with speed := v }

theorem Loader.freeAim_le (cfg : LoaderConfig) (t : PerEight (Option Band)) (p : Nat) (l : Loader) :
    l.freeAim cfg t p ≤ cfg.maxSpeed := by
  unfold Loader.freeAim
  split <;> omega

theorem Loader.aim_le (cfg : LoaderConfig) (t : PerEight (Option Band)) (p : Nat) (l : Loader) :
    (l.aim cfg t p).1 ≤ cfg.maxSpeed :=
  (l.aim_looksAhead cfg t p).le_start.trans (l.freeAim_le cfg t p)

section
variable {fit : BoatSpec → Prop} {law : Bool → Loader → Prop} {cfg : LoaderConfig} {e : Bool} {l : Loader}
variable (L : LoaderLaw fit law) (T : TickLaw cfg law)
include L T

theorem TickLaw.stepOnce (stroke : Nat) (h : law e l) : law e (l.stepOnce stroke).1 := by
  obtain same | ⟨p, q, known, near, step⟩ | ⟨-, counted | stall⟩ := l.stepOnce_cases stroke
  · rw [same]
    exact h
  · have moved : law e { l with position := some q, stepOut := true } := L.same (T.moves known near h) ⟨rfl, rfl, rfl, rfl, id⟩
    obtain step | step := step
    · rw [step]
      exact L.reached moved
    · rw [step]
      exact moved
  · rw [counted]
    exact L.same h ⟨rfl, rfl, rfl, rfl, id⟩
  · rw [stall]
    exact L.same (L.stands (st := .stalled) rfl h) ⟨rfl, rfl, rfl, rfl, id⟩

theorem TickLaw.issueSteps (stroke : Nat) : ∀ (k : Nat) (r : Loader × Bool), law e r.1 →
    law e (Loader.issueSteps stroke k r).1
  | 0, _, h => h
  | k + 1, r, h => by
    refine TickLaw.issueSteps stroke k _ ?_
    split
    · exact h
    · exact T.stepOnce L stroke h

theorem TickLaw.tick (stroke : Nat) (h : law e l) : law e (l.tick stroke).1 := by
  unfold Loader.tick
  dsimp only
  split
  · exact T.issueSteps L stroke _ _ (L.same h ⟨rfl, rfl, rfl, rfl, id⟩)
  · exact L.same h ⟨rfl, rfl, rfl, rfl, id⟩

/-- The speed moves toward an aim within the maximum, or slows to the end of a stop. -/
theorem TickLaw.speedUpdate (t : PerEight (Option Band)) (h : law e l) : law e (l.speedUpdate e cfg t) := by
  unfold Loader.speedUpdate
  split
  case h_1 state =>
    split
    case h_1 p _ =>
      refine L.same (T.speeds (v := (l.updateMoving cfg t p).speed) (by rw [state]; rfl) (fun one within => ?_) h)
        ⟨rfl, rfl, rfl, rfl, id⟩
      have toward : ∀ aim, aim ≤ cfg.maxSpeed → moveToward cfg.accel aim l.speed ≤ cfg.maxSpeed := fun aim le =>
        moveToward_le _ _ _ _ le within
      rw [Loader.updateMoving_eq rfl]
      dsimp only
      split
      · exact Nat.max_le.2 ⟨toward 0 (Nat.zero_le _), one⟩
      · exact toward _ (l.aim_le cfg t p)
    · exact h
  case h_2 state =>
    exact T.speeds (by rw [state]; rfl) (fun _ within => moveToward_le _ _ _ _ (Nat.min_le_right _ _) within) h
  case h_3 state =>
    dsimp only
    generalize (if l.causes.halt then cfg.stopStep else cfg.accel) = slowing
    split
    · exact L.endStop h
    · exact T.speeds (by rw [state]; rfl) (fun _ within => (Nat.sub_le _ _).trans within) h
  all_goals exact h

end

section
variable {fit : BoatSpec → Prop} {law : Bool → Loader → Prop} {s : State}
variable (L : LoaderLaw fit law) (T : TickLaw s.store.loader law)
include L T

theorem TickLaw.tickSteps (h : s.Obeys fit law) : s.tickSteps.Obeys fit law := by
  have ticked : (s.setLoader (s.loader.tick s.store.loader.stroke).1).Obeys fit law := ⟨T.tick L _ h.loader, h.queue⟩
  unfold State.tickSteps
  dsimp only
  split
  · exact L.loaderStalled ticked
  · exact ticked

theorem TickLaw.motionTick (h : s.Obeys fit law) : s.motionTick.Obeys fit law := by
  have steps := T.tickSteps L h
  have store : s.tickSteps.store = s.store := (congrArg State.store s.tickSteps_eq :)
  unfold State.motionTick
  dsimp only
  split
  · exact ⟨L.same steps.loader ⟨rfl, rfl, rfl, rfl, id⟩, steps.queue⟩
  · rw [← store] at T
    exact ⟨L.same (T.speedUpdate L s.tickSteps.store.bands steps.loader) ⟨rfl, rfl, rfl, rfl, id⟩, steps.queue⟩

/-- Every command keeps a law of both kinds. -/
theorem TickLaw.exec (boats : ∀ (g : Segment) b, (g.clamp s.store).boat = some b → fit b) {c : Instr} {t : State}
    (e : Machine.exec c s = .next t) (h : s.Obeys fit law) : t.Obeys fit law := by
  by_cases tick : c = .motionTick
  · subst tick
    cases e
    exact T.motionTick L h
  by_cases update : c = .speedUpdate
  · subst update
    cases e
    split
    · exact T.motionTick L h
    · exact h
  · exact L.exec boats ⟨tick, update⟩ e h

end

/-! ### Law L10 (R139) -/

/-- A loader under way moves under an established curtain, of which it has no loss to stop for. -/
def Loader.UnderCurtain (e : Bool) (l : Loader) : Prop :=
  l.state = .homing ∨ l.state = .moving → e = true ∧ l.causes.curtain = false

/-- A loader not in motion, or that has begun one and not moved yet. -/
def Loader.Resting (_ : Bool) (l : Loader) : Prop :=
  l.state ≠ .stopping ∧ (l.state = .homing ∨ l.state = .moving → l.speed = 0)

theorem Loader.underCurtain_iff (e : Bool) (l : Loader) :
    l.UnderCurtain e ↔ (l.state.isUnderWay = true → e = true ∧ l.causes.curtain = false) := by
  rw [l.state.isUnderWay_iff]
  exact Iff.rfl

theorem LoaderState.not_isUnderWay_of_isStopped {st : LoaderState} (h : st.isStopped = true) : st.isUnderWay = false := by
  cases st with
  | atRest | waitCurtain | dwell | stalled | stopping => rfl
  | homing | moving => nomatch h

theorem Loader.underCurtain_of_stopped {e : Bool} {l : Loader} (h : l.state.isUnderWay = false) : l.UnderCurtain e :=
  (l.underCurtain_iff e).2 fun k => absurd k (by simp [h])

theorem underCurtain_loaderLaw : LoaderLaw (fun _ => True) (fun e l => l.UnderCurtain e) where
  reset level phase := Loader.underCurtain_of_stopped rfl
  opened h state := ⟨rfl, (h state).2⟩
  closed {l} lost h state := absurd (lost (l.state.isUnderWay_iff.2 state)) (by simp [(h state).2])
  same {e l m} h k state := by
    rw [k.state] at state
    obtain ⟨established, free⟩ := h state
    exact ⟨established, by simpa [free] using k.curtain⟩
  causes c idle _ := Loader.underCurtain_of_stopped idle
  rests stopped _ _ := Loader.underCurtain_of_stopped (LoaderState.not_isUnderWay_of_isStopped stopped)
  stands stopped _ := Loader.underCurtain_of_stopped (LoaderState.not_isUnderWay_of_isStopped stopped)
  runs {e l st} _ free h _ := free.elim id fun under => (l.underCurtain_iff e).1 h under
  brakes _ _ _ := Loader.underCurtain_of_stopped rfl
  targets _ h := h
  home h := h

theorem underCurtain_tickLaw (cfg : LoaderConfig) : TickLaw cfg fun e l => l.UnderCurtain e where
  moves _ _ h := h
  speeds _ _ h := h

theorem resting_loaderLaw : LoaderLaw (fun _ => True) Loader.Resting := by
  have stopped : ∀ {e : Bool} {l : Loader}, l.state.isStopped = true → l.Resting e := fun {e l} h =>
    ⟨fun state => by simp [state, LoaderState.isStopped] at h, fun state => by
      rcases state with state | state <;> simp [state, LoaderState.isStopped] at h⟩
  exact {
    reset := fun _ _ => stopped rfl
    opened := id
    closed := fun _ h => h
    same := fun h k => ⟨k.state ▸ h.1, fun state => k.speed.trans (h.2 (k.state ▸ state))⟩
    causes := fun _ _ h => h
    rests := fun st _ _ => stopped st
    stands := fun st _ => stopped st
    runs := fun under _ _ => ⟨fun state => by simp at state; simp [state, LoaderState.isUnderWay] at under, fun _ => rfl⟩
    brakes := fun {_ l} state speed h => absurd (h.2 (l.state.isUnderWay_iff.1 state)) speed.ne'
    targets := fun _ h => h
    home := id }

theorem Loader.inMotion_eq_false_iff (l : Loader) :
    l.inMotion = false ↔ l.state ≠ .homing ∧ l.state ≠ .moving ∧ l.state ≠ .stopping := by
  simp [Loader.inMotion, and_assoc]

theorem Loader.speedUpdate_rest (e : Bool) (cfg : LoaderConfig) (t : PerEight (Option Band)) {l : Loader}
    (rest : l.inMotion = false) : l.speedUpdate e cfg t = l := by
  obtain ⟨homing, moving, stopping⟩ := l.inMotion_eq_false_iff.1 rest
  unfold Loader.speedUpdate
  split
  case h_1 state => exact absurd state moving
  case h_2 state => exact absurd state homing
  case h_3 state => exact absurd state stopping
  all_goals rfl

/-- At rest a tick counts, and moves nothing. -/
theorem State.motionTick_of_rest {s : State} (rest : s.loader.inMotion = false) :
    ∃ k, s.motionTick = { s with loader := { s.loader with stepOut := false, tickPhase := k } } := by
  have steps : s.tickSteps = { s with loader := { s.loader with stepOut := false } } := by
    rw [s.tickSteps_eq, Loader.tick_rest _ (.inr (s.loader.inMotion_eq_false_iff.1 rest)), Loader.checked_unstalled]
    simp
  unfold State.motionTick
  dsimp only
  rw [steps]
  split
  · exact ⟨_, rfl⟩
  · refine ⟨0, ?_⟩
    unfold State.speedUpdate
    rw [Loader.speedUpdate_rest _ _ _ (show ({ s.loader with stepOut := false } : Loader).inMotion = false from rest)]
    rfl

theorem State.motionTick_rest {s : State} (rest : s.loader.inMotion = false) : s.motionTick.loader.inMotion = false := by
  obtain ⟨k, tick⟩ := State.motionTick_of_rest rest
  rw [tick]
  exact rest

theorem exec_motionInv {c : Instr} {s t : State} (e : exec c s = .next t) (h : s.MotionInv) : t.MotionInv := by
  have obeys : s.Obeys (fun _ => True) fun e l => l.UnderCurtain e := ⟨h, fun _ _ _ _ => trivial⟩
  exact (TickLaw.exec underCurtain_loaderLaw (underCurtain_tickLaw _) (fun _ _ _ => trivial) e obeys).loader

/-- A step idles, or runs the front command on the state with the queue's rest. -/
theorem step_cases {s t : State} (e : step s = .next t) : t = s ∨ ∃ c rest, exec c (s.setPending rest) = .next t := by
  unfold step at e
  split at e
  · cases e
    exact .inl rfl
  · exact .inr ⟨_, _, e⟩

theorem step_motionInv {s t : State} (e : step s = .next t) (h : s.MotionInv) : t.MotionInv := by
  obtain rfl | ⟨c, rest, e⟩ := step_cases e
  · exact h
  · exact exec_motionInv (s := s.setPending rest) e h

/-- From rest a command begins at most a motion that has not moved yet: none ends in STOPPING. -/
theorem exec_not_stopping {c : Instr} {s t : State} (e : exec c s = .next t) (rest : s.loader.inMotion = false) :
    t.loader.state ≠ .stopping := by
  have still : ∀ {l : Loader}, l.inMotion = false → l.state ≠ .stopping := fun {l} h => (l.inMotion_eq_false_iff.1 h).2.2
  by_cases tick : c = .motionTick
  · subst tick
    cases e
    exact still (State.motionTick_rest rest)
  by_cases update : c = .speedUpdate
  · subst update
    cases e
    split
    · exact still (State.motionTick_rest rest)
    · exact still rest
  · obtain ⟨homing, moving, stopping⟩ := s.loader.inMotion_eq_false_iff.1 rest
    have obeys : s.Obeys (fun _ => True) Loader.Resting :=
      ⟨⟨stopping, fun state => (not_or_intro homing moving state).elim⟩, fun _ _ _ _ => trivial⟩
    exact (resting_loaderLaw.exec (fun _ _ _ => trivial) ⟨tick, update⟩ e obeys).loader.1

/-- Settles O59: law L10, with its own step lemma; from rest no step ends in STOPPING, so a motion that has begun is under way. -/
theorem motionBeginsUnderTheCurtain : Obligations.MotionBeginsUnderTheCurtain := by
  have begins : ∀ s t : State, s.loader.state ≠ .homing → s.loader.state ≠ .moving → step s = .next t →
      (t.loader.state = .homing ∨ t.loader.state = .moving) → t.gas.established = true := fun s t homing moving e state =>
    (step_motionInv e (fun before => (not_or_intro homing moving before).elim) state).1
  refine ⟨fun s t rest e moves => ?_, begins, fun s t h e => step_motionInv e h⟩
  obtain ⟨homing, moving, -⟩ := s.loader.inMotion_eq_false_iff.1 rest
  have not_stopping : t.loader.state ≠ .stopping := by
    obtain rfl | ⟨c, queue, e⟩ := step_cases e
    · exact (t.loader.inMotion_eq_false_iff.1 rest).2.2
    · exact exec_not_stopping (s := s.setPending queue) e rest
  have under := (Loader.inMotion_iff _).1 moves
  exact begins s t homing moving e (by tauto)

end Sys2Proof.Machine
end

section
/-! PROOFS. Law L9: every command keeps the loader in its bounds (R121, R123, R128, R139). -/

namespace Sys2Proof.Machine

/-! ### The bounds -/

/-- Position, speed and target of the loader are in the bounds of a configuration. -/
def Loader.Within (cfg : LoaderConfig) (_ : Bool) (l : Loader) : Prop :=
  (∀ p, l.position = some p → p ≤ cfg.stroke) ∧ l.speed ≤ cfg.maxSpeed ∧ (l.state.isStopped = true → l.speed = 0)
    ∧ l.part.target ≤ cfg.stroke

/-- A boat part's target lies within the stroke. -/
def BoatSpec.Fits (cfg : LoaderConfig) (b : BoatSpec) : Prop := b.target ≤ cfg.stroke

theorem within_loaderLaw (cfg : LoaderConfig) : LoaderLaw (BoatSpec.Fits cfg) (Loader.Within cfg) := by
  have zero : ∀ {e : Bool} {l : Loader} (st : LoaderState), l.Within cfg e →
      Loader.Within cfg e { l with state := st, speed := 0 } := fun _ h => ⟨h.1, Nat.zero_le _, fun _ => rfl, h.2.2.2⟩
  exact {
    reset := fun level phase => by
      refine ⟨fun p known => ?_, Nat.zero_le _, fun _ => rfl, Nat.zero_le _⟩
      nomatch known
    opened := id
    closed := fun _ h => h
    same := fun {e l m} ⟨position, speed, stopped, target⟩ k =>
      ⟨k.position ▸ position, k.speed ▸ speed, fun state => k.speed.trans (stopped (k.state ▸ state)), k.target ▸ target⟩
    causes := fun _ _ h => h
    rests := fun _ stopped h => ⟨h.1, h.2.1, fun _ => h.2.2.1 stopped, h.2.2.2⟩
    stands := fun _ h => zero _ h
    runs := fun _ _ h => zero _ h
    brakes := fun _ _ h => ⟨h.1, h.2.1, fun state => absurd state (by simp [LoaderState.isStopped]), h.2.2.2⟩
    targets := fun fits h => ⟨h.1, h.2.1, h.2.2.1, fits⟩
    home := fun h => ⟨fun p known => by
      cases known
      exact Nat.zero_le _, h.2⟩ }

theorem within_tickLaw {cfg : LoaderConfig} (one : 1 ≤ cfg.maxSpeed) : TickLaw cfg (Loader.Within cfg) where
  moves {e l p q} known near h := by
    obtain ⟨position, speed, stopped, target⟩ := h
    have before := position p known
    refine ⟨fun r moved => ?_, speed, stopped, target⟩
    cases moved
    omega
  speeds {e l v} runs within h :=
    ⟨h.1, within one h.2.1, fun state => absurd state (by simp [runs]), h.2.2.2⟩

/-- A loader at rest in the unknown, with no way to go. -/
def Loader.Bare (l : Loader) : Prop := l.state = .atRest ∧ l.position = none ∧ l.part.target = 0

/-- What an UNCONFIGURED station's loader and queue are. -/
def State.Bare (s : State) : Prop := s.loader.Bare ∧ s.exec.queue = []

theorem State.loaderInv_iff (s : State) : s.LoaderInv ↔ s.TimerInv ∧ 1 ≤ s.store.loader.maxSpeed
    ∧ s.Obeys (BoatSpec.Fits s.store.loader) (Loader.Within s.store.loader) ∧ (s.sup.station = .unconfigured → s.Bare) := by
  constructor
  · rintro ⟨timer, position, ⟨one, speed⟩, stopped, target, queue, bare⟩
    refine ⟨timer, one, ⟨⟨position, speed, stopped, target⟩, queue⟩, fun station => ?_⟩
    obtain ⟨state, unknown, zero, empty⟩ := bare station
    exact ⟨⟨state, unknown, zero⟩, empty⟩
  · rintro ⟨timer, one, ⟨⟨position, speed, stopped, target⟩, queue⟩, bare⟩
    refine ⟨timer, position, ⟨one, speed⟩, stopped, target, queue, fun station => ?_⟩
    obtain ⟨⟨state, unknown, zero⟩, empty⟩ := bare station
    exact ⟨state, unknown, zero, empty⟩

/-- At 0 everything is in its bounds, whatever the stroke. -/
theorem State.Bare.obeys {s : State} (h : s.Bare) (cfg : LoaderConfig) (speed : s.loader.speed = 0) :
    s.Obeys (BoatSpec.Fits cfg) (Loader.Within cfg) := by
  obtain ⟨⟨-, unknown, target⟩, queue⟩ := h
  refine ⟨⟨fun p known => ?_, speed ▸ Nat.zero_le _, fun _ => speed, target ▸ Nat.zero_le _⟩, fun g mem => ?_⟩
  · rw [unknown] at known
    nomatch known
  · rw [queue] at mem
    nomatch mem

theorem State.Bare.of_same {s t : State} (k : s.SameBoat t) (h : s.Bare) : t.Bare := by
  rw [State.Bare, k.loader, k.queue]
  exact h

/-- A bare state under an amended configuration, UNCONFIGURED or not. -/
theorem State.loaderInv_of_bare {s : State} (timer : s.TimerInv) (one : 1 ≤ s.store.loader.maxSpeed) (bare : s.Bare)
    (speed : s.loader.speed = 0) : s.LoaderInv :=
  s.loaderInv_iff.2 ⟨timer, one, bare.obeys _ speed, fun _ => bare⟩

/-! ### Commands in UNCONFIGURED -/

theorem Loader.Bare.inMotion {l : Loader} (h : l.Bare) : l.inMotion = false :=
  l.inMotion_eq_false_iff.2 (by simp [h.1])

theorem Loader.Bare.addCause {l : Loader} (e : Bool) (k : StopCause) (h : l.Bare) : (l.addCause e k).Bare := by
  rw [Loader.addCause_of_idle e k (by simp [h.1]) (by simp [h.1]) (by simp [h.1])]
  exact h

theorem Loader.Bare.homeActivation {l : Loader} (e : Bool) (h : l.Bare) : (l.homeActivation e).Bare := by
  have same : l.homeActivation e = l := by simp only [Loader.homeActivation, h.1]
  rw [same]
  exact h

theorem State.Bare.report {s : State} (h : s.Bare) : s.report.Bare := by
  unfold State.report
  split
  · exact ⟨h.1.addCause _ _, h.2⟩
  · exact h

theorem State.Bare.halt {s : State} (h : s.Bare) : s.halt.Bare := by
  unfold State.halt
  dsimp only
  split
  · exact h
  · exact ⟨h.1.addCause _ _, h.2⟩

theorem State.Bare.motionTick {s : State} (h : s.Bare) : s.motionTick.Bare := by
  obtain ⟨k, tick⟩ := State.motionTick_of_rest h.1.inMotion
  rw [tick]
  exact h

theorem State.Bare.begin {s : State} (h : s.Bare) : s.begin.Bare := by
  unfold State.begin
  dsimp only
  split
  · exact State.Bare.halt h
  · exact h

theorem State.Bare.command {s : State} {code : Byte} {act : State → State}
    (work : ∀ u : State, u.sup.station = .unconfigured → u.Bare → (act u).Bare) (station : s.sup.station = .unconfigured)
    (h : s.Bare) : (s.command code act).Bare := by
  unfold State.command
  split
  · exact work s.endTransaction station h
  · exact h

/-- The commands of host, plant and clock that can reach the loader or the queue, resets and boundaries apart. -/
def reachesTheBoat : Instr → Bool
  | .start | .append | .clearHalt | .haltAssert | .homeSwitchActivation | .homeSwitchRelease | .conversionComplete _
  | .motionTick | .speedUpdate => true
  | _ => false

theorem exec_bare {c : Instr} (hc : reachesTheBoat c = true) {s t : State} (e : exec c s = .next t)
    (station : s.sup.station = .unconfigured) (h : s.Bare) : t.Bare := by
  cases c with
  | start =>
    cases e
    refine h.command (fun u station k => ?_) station
    rw [if_pos station]
    split
    · exact k
    · exact State.Bare.of_same (State.reply_leavesBoat _ _ _).boat k.begin
  | append =>
    cases e
    refine h.command (fun u station k => ?_) station
    rw [if_pos station]
    exact k
  | clearHalt =>
    cases e
    refine h.command (fun u station k => ?_) station
    rw [if_neg (by simp [station])]
    exact k
  | haltAssert =>
    cases e
    split
    · exact h
    · show State.Bare (if s.sup.station = .unconfigured then _ else _)
      rw [if_pos station]
      exact h
  | homeSwitchActivation =>
    cases e
    split
    · exact h
    · exact ⟨Loader.Bare.homeActivation _ h.1, h.2⟩
  | homeSwitchRelease => cases e; exact h
  | conversionComplete measured =>
    cases e
    exact State.conversionComplete_keeps (P := State.Bare) (fun _ _ k => .of_same k) (fun _ => .report) measured h
  | motionTick => cases e; exact h.motionTick
  | speedUpdate =>
    cases e
    split
    · exact h.motionTick
    · exact h
  | _ => nomatch hc

/-! ### Every command -/

/-- A command keeps the invariant when it keeps the configuration, makes no station UNCONFIGURED and leaves a bare one bare. -/
theorem exec_loaderInv_of {c : Instr} {s t : State} (e : exec c s = .next t) (store : t.sup.store = s.sup.store)
    (unconfigured : t.sup.station = .unconfigured → s.sup.station = .unconfigured)
    (bare : s.sup.station = .unconfigured → s.timer.timer = .stopped → s.Bare → t.Bare) (h : s.LoaderInv) : t.LoaderInv := by
  obtain ⟨timer, one, obeys, before⟩ := s.loaderInv_iff.1 h
  have fit : ∀ (g : Segment) b, (g.clamp s.store).boat = some b → b.Fits s.store.loader := fun g b boat => by
    obtain ⟨b', -, rfl⟩ := Option.map_eq_some_iff.1 boat
    exact (clampNat_zero _ _).trans_le (Nat.min_le_right _ _)
  have kept := TickLaw.exec (within_loaderLaw s.store.loader) (within_tickLaw one) fit e obeys
  refine t.loaderInv_iff.2 ⟨(exec_keepsBounds c e).timer timer, ?_, ?_, fun station => ?_⟩
  · rw [State.store, store]
    exact one
  · rw [State.store, store]
    exact kept
  · have station := unconfigured station
    exact bare station (timer.1 station) (before station)

theorem exec_loaderInv_of_runsOn {c : Instr} {s t : State} (e : exec c s = .next t) (r : s.RunsOn t)
    (bare : s.sup.station = .unconfigured → s.timer.timer = .stopped → s.Bare → t.Bare) (h : s.LoaderInv) : t.LoaderInv :=
  exec_loaderInv_of e r.store r.unconfigured.1 bare h

theorem exec_loaderInv_of_sameRamp {c : Instr} {s t : State} (e : exec c s = .next t) (r : s.SameRamp t)
    (bare : s.sup.station = .unconfigured → s.timer.timer = .stopped → s.Bare → t.Bare) (h : s.LoaderInv) : t.LoaderInv :=
  exec_loaderInv_of e r.store r.unconfigured bare h

/-- The rows of the mains keep the configuration, and make no station UNCONFIGURED. -/
theorem State.zeroCross_configured (s : State) (e : Nat) :
    (s.zeroCross e).sup.store = s.sup.store
      ∧ ((s.zeroCross e).sup.station = .unconfigured → s.sup.station = .unconfigured) := by
  have runs : ∀ {u t : State}, u.sup = s.sup → u.RunsOn t →
      t.sup.store = s.sup.store ∧ (t.sup.station = .unconfigured → s.sup.station = .unconfigured) := fun sup r =>
    ⟨r.store.trans (by rw [sup]), fun station => by rw [← sup]; exact r.unconfigured.1 station⟩
  unfold State.zeroCross
  split
  · exact runs rfl .rfl
  split
  · dsimp only
    split
    · exact ⟨rfl, id⟩
    · exact runs (u := s.setTimer { s.timer with mains := .present }) rfl (State.boundary_runsOn _)
  · split
    · exact runs rfl s.boundary_runsOn
    split
    · exact runs rfl .rfl
    · exact runs rfl (State.boundaries_runsOn _ s)

theorem State.loseMains_configured (s : State) :
    s.loseMains.sup.store = s.sup.store ∧ (s.loseMains.sup.station = .unconfigured → s.sup.station = .unconfigured) := by
  unfold State.loseMains
  split
  · have r := (((State.raise_runsOn (s.setTimer { s.timer with mains := .lost }) reasonMainsLost).trans
      (State.boundaryWork_runsOn _)).trans (State.boundaryWork_runsOn _)).trans (State.boundaryWork_runsOn _)
    exact ⟨r.store, r.unconfigured.1⟩
  · exact ⟨rfl, id⟩

theorem State.boundary_bare {s : State} (stopped : s.timer.timer = .stopped) (h : s.Bare) : s.boundary.Bare := by
  have idle : s.boundaryWork = s := by simp only [State.boundaryWork, stopped]
  unfold State.boundary
  rw [idle]
  dsimp only
  split
  · exact h
  · exact h

/-- A configuration is stored under a bare loader, and at least 1 is stored as its maximum speed (R121, R159). -/
theorem State.configure_loaderInv {s : State} (r : ResultCode) (c : Store) (echo : List Byte) (one : 1 ≤ c.loader.maxSpeed)
    (h : s.LoaderInv) : (s.configure r c echo).LoaderInv := by
  obtain ⟨timer, -, ⟨⟨-, -, speed, -⟩, -⟩, before⟩ := s.loaderInv_iff.1 h
  unfold State.configure
  split
  · rename_i station
    have bare := before station
    exact State.loaderInv_of_bare (s := (s.setStore c).reply r echo) timer one bare (speed (by rw [bare.1.1]; rfl))
  · exact h

theorem State.command_loaderInv {s : State} {code : Byte} {act : State → State}
    (work : ∀ u : State, u.LoaderInv → (act u).LoaderInv) (h : s.LoaderInv) : (s.command code act).LoaderInv := by
  unfold State.command
  split
  · exact work s.endTransaction h
  · exact h

theorem LoaderConfig.clamp_maxSpeed (l : LoaderConfig) : 1 ≤ l.clamp.maxSpeed := by
  show 1 ≤ clampNat 1 100 l.maxSpeed
  rw [clampNat_eq _ (by omega)]
  exact Nat.le_max_left _ _

theorem exec_loaderInv (c : Instr) {s t : State} (e : exec c s = .next t) (h : s.LoaderInv) : t.LoaderInv := by
  have maxSpeed : ∀ {u : State}, u.LoaderInv → 1 ≤ u.store.loader.maxSpeed := fun k => (State.loaderInv_iff _).1 k |>.2.1
  have boundary : ∀ b : Bool, exec c s = .next (if b then s.boundary else s) →
      State.LoaderInv (if b then s.boundary else s) := fun b e =>
    exec_loaderInv_of_runsOn e (s.boundary_if_runsOn b) (fun _ stopped k => by
      split
      · exact State.boundary_bare stopped k
      · exact k) h
  cases c with
  | hardReset straps =>
    have timer : t.TimerInv := (exec_keepsBounds _ e).timer h.1
    cases e
    exact State.loaderInv_of_bare timer (Nat.le_refl 1) ⟨⟨rfl, rfl, rfl⟩, rfl⟩ rfl
  | restart =>
    cases e
    refine State.command_loaderInv (fun u k => ?_) h
    exact State.loaderInv_of_bare (s := u.restart.reply .ok []) (u.restart_keepsBounds.timer k.1) (Nat.le_refl 1)
      ⟨⟨rfl, rfl, rfl⟩, rfl⟩ rfl
  | setBank | setGas =>
    cases e
    exact State.command_loaderInv (fun u k => State.configure_loaderInv _ _ _ (maxSpeed k) k) h
  | setLoader =>
    cases e
    exact State.command_loaderInv (fun u k => State.configure_loaderInv _ _ _ (LoaderConfig.clamp_maxSpeed _) k) h
  | setZone | setBand =>
    cases e
    refine State.command_loaderInv (fun u k => ?_) h
    dsimp only
    split
    · exact k
    · exact State.configure_loaderInv _ _ _ (maxSpeed k) k
  | zeroCrossEdge elapsed =>
    have idle := s.zeroCross_stopped elapsed
    obtain ⟨store, station⟩ := s.zeroCross_configured elapsed
    cases e
    exact exec_loaderInv_of (c := .zeroCrossEdge elapsed) rfl store station (fun _ stopped k => (idle stopped).symm ▸ k) h
  | mainsLost =>
    obtain ⟨store, station⟩ := s.loseMains_configured
    have idle : s.timer.timer = .stopped → s.loseMains = s := fun stopped => if_neg (by simp [stopped])
    cases e
    exact exec_loaderInv_of (c := .mainsLost) rfl store station (fun _ stopped k => (idle stopped).symm ▸ k) h
  | substituteBoundary =>
    cases e
    refine exec_loaderInv_of_runsOn (c := .substituteBoundary) rfl s.substitute_runsOn (fun _ stopped k => ?_) h
    rw [State.substitute_none (.inl stopped)]
    exact k
  | listeningEnd | firstWindowStart | windowStart | ownSlot | sequencePosition | sharePosition | controlPosition =>
    cases e
    exact boundary _ rfl
  | start => exact exec_loaderInv_of_sameRamp e (execStart_sameRamp e) (fun station _ => exec_bare rfl e station) h
  | append => exact exec_loaderInv_of_sameRamp e (exec_sameRamp_of_host (by decide) e) (fun station _ => exec_bare rfl e station) h
  | clearHalt => exact exec_loaderInv_of_sameRamp e (execClearHalt_sameRamp e) (fun station _ => exec_bare rfl e station) h
  | haltAssert => exact exec_loaderInv_of_sameRamp e (execHaltAssert_sameRamp e) (fun station _ => exec_bare rfl e station) h
  | homeSwitchActivation | homeSwitchRelease =>
    exact exec_loaderInv_of_sameRamp e (exec_sameRamp_of_input (by decide) e) (fun station _ => exec_bare rfl e station) h
  | conversionComplete measured =>
    have bare := exec_bare (c := .conversionComplete measured) rfl e
    cases e
    exact exec_loaderInv_of_runsOn (c := .conversionComplete measured) rfl (s.conversionComplete_runsOn measured)
      (fun station _ => bare station) h
  | motionTick =>
    have bare := exec_bare (c := .motionTick) rfl e
    cases e
    exact exec_loaderInv_of_runsOn (c := .motionTick) rfl s.motionTick_runsOn (fun station _ => bare station) h
  | speedUpdate =>
    exact exec_loaderInv_of_runsOn e (execSpeedUpdate_runsOn e) (fun station _ => exec_bare rfl e station) h
  | _ =>
    have k := exec_leavesBoat rfl e
    exact exec_loaderInv_of e k.store k.unconfigured (fun _ _ bare => bare.of_same k.boat) h

/-- Settles O55: law L9 is kept by every command. -/
theorem stepsKeepTheLoaderInBounds : Obligations.StepsKeepTheLoaderInBounds := by
  intro s t h e
  obtain rfl | ⟨c, rest, e⟩ := step_cases e
  · exact h
  · exact exec_loaderInv c (s := s.setPending rest) e h

end Sys2Proof.Machine
end

section
/-! PROOFS. The statements about the home switch, the dwell check and the boat part that is taken (R124, R126, R131, R133, R136, R137). -/

namespace Sys2Proof.Machine

/-! ### The home switch -/

/-- An activation ends a homing, and a motion OUT in the same way (R124, R131). -/
theorem Loader.homeActivation_ends (e : Bool) {l : Loader}
    (h : l.state = .homing ∨ (l.state = .moving ∧ l.direction = .outward)) :
    l.homeActivation e = l.endHoming := by
  rcases h with state | ⟨state, out⟩
  · simp only [Loader.homeActivation, state]
  · simp only [Loader.homeActivation, Loader.endHoming, state, out]

theorem Loader.homeActivation_stops (e : Bool) {l : Loader} (state : l.state = .stopping) (out : l.direction = .outward) :
    l.homeActivation e = ({ l with position := some 0 } : Loader).endStop e := by
  simp only [Loader.homeActivation, state, out]

theorem Loader.homeActivation_idle (e : Bool) {l : Loader} (h : l.state = .atRest ∨ l.state = .waitCurtain ∨ l.state = .dwell
    ∨ l.state = .stalled ∨ ((l.state = .moving ∨ l.state = .stopping) ∧ l.direction = .inward)) : l.homeActivation e = l := by
  rcases h with state | state | state | state | ⟨state | state, inward⟩
  case inr.inr.inr.inr.inl | inr.inr.inr.inr.inr => simp only [Loader.homeActivation, state, inward]
  all_goals simp only [Loader.homeActivation, state]

theorem exec_homeSwitchActivation_of_released {s : State} {m : Loader} (released : s.loader.homeActive = false)
    (acts : ({ s.loader with homeActive := true } : Loader).homeActivation s.gas.established = m) :
    exec .homeSwitchActivation s = .next { s with loader := m } := by
  subst acts
  exact congrArg Host.Outcome.next (if_neg (by simp [released]))

/-- Settles O50: an activation by the loader's state, and a level that stays or is released. -/
theorem homeSwitchFixesThePosition : Obligations.HomeSwitchFixesThePosition := by
  refine ⟨fun s released => ?_, fun s active => congrArg Host.Outcome.next (if_pos active), fun s => rfl⟩
  intro l
  refine ⟨fun ends => ?_, fun state out => ?_, fun idle => ?_⟩
  · have home := Loader.homeActivation_ends s.gas.established (l := l) ends
    exact ⟨fun there => exec_homeSwitchActivation_of_released released (home.trans (Loader.endHoming_at_target there)),
      fun elsewhere => exec_homeSwitchActivation_of_released released (home.trans (Loader.endHoming_elsewhere elsewhere))⟩
  · exact exec_homeSwitchActivation_of_released released (Loader.homeActivation_stops _ (l := l) state out)
  · exact exec_homeSwitchActivation_of_released released (Loader.homeActivation_idle _ (l := l) idle)

/-! ### The dwell check -/

/-- A DWELL whose zones lag stays, its window counted. -/
theorem Loader.dwellCheck_of_waits (e : Bool) {recovered lagging : Bool} {l : Loader} (stays : ¬ l.Overstays)
    (state : l.state = .dwell) (band : 0 < l.part.dwellBand) (waits : recovered = false) :
    l.dwellCheck e recovered lagging = (l.counted, false) := by
  have kept : ¬ (l.state = .dwell ∧ (l.part.dwellBand = 0 ∨ recovered = true)) := by simp [band.ne', waits]
  rw [Loader.dwellCheck_of_stays e stays (if_neg kept)]
  exact congrArg (·, false) (if_neg fun h => absurd (state.symm.trans h.1) (by decide))

/-- Settles O4: the check that the row hands the loader as it was, whose lags are those before or after the ramp step. -/
theorem dwellChecksStopAndReleaseThePush : Obligations.DwellChecksStopAndReleaseThePush := by
  intro s ends p l e band total stalls counted
  obtain ⟨t, first, r, recovered, lagging, row, -, -, side, recovers, lagged, checks⟩ := exec_windowStart_judges ends
  refine ⟨t, row, fun same => ?_⟩
  intro lags close works
  have reads : ∀ {P : Ramp → Prop}, P p.ramp ∧ P t.ramp → P r := fun both => side.elim (fun e => e ▸ both.1) (fun e => e ▸ both.2)
  have far : ∀ bound, lags bound → p.Lags r bound := fun bound h => reads (P := fun q => p.Lags q bound) h
  have near : ∀ bound, close bound → ¬ p.Lags r bound := fun bound h => reads (P := fun q => ¬ p.Lags q bound) h
  obtain ⟨x, result⟩ : ∃ x, x = p.loader.checkResult first p.gas.established t.gas.established recovered lagging := ⟨_, rfl⟩
  rw [← result] at checks
  rw [same] at checks result
  obtain ⟨check, loader⟩ := checks.same_check result
  have station := checks.station
  have fault := checks.fault
  refine ⟨fun exceeds => ?_, fun stays => ?_⟩
  · rw [check, Loader.dwellCheck_of_overstays e exceeds] at loader station fault
    refine ⟨loader, fault, ?_⟩
    simpa only [State.works, decide_eq_true_eq, true_and] using station
  · have calm : x.2 = false := Bool.eq_false_iff.2 fun told => stays ((Loader.dwellCheck_stall _ _ _ l).1.1 (check ▸ told))
    rw [calm] at station fault
    have acts : ∀ {m : Loader}, l.dwellCheck e recovered lagging = (m, false) → t.loader = m := fun check' => by
      rw [loader, check, check', Loader.checked_unstalled]
    refine ⟨station, fault, fun state cause settles => acts ?_, fun state wide halved => acts ?_,
      fun state inward cause wide h => acts ?_, fun state free => acts ?_⟩
    · have unlagged : band = 0 ∨ lagging = false := settles.imp_right fun h =>
        Bool.eq_false_iff.2 fun lag => near _ h (lagged.1 lag).half
      exact Loader.dwellCheck_of_released e stays state cause (settles.imp_right fun h => recovers.2 (near _ h)) unlagged
    · exact Loader.dwellCheck_of_waits e stays state wide (Bool.eq_false_iff.2 fun back => recovers.1 back (far _ halved))
    · have same : l.counted = l := by simp [Loader.counted, Loader.windowTotal, cause]
      have stops := Loader.dwellCheck_of_pushStops (recovered := recovered) e stays ⟨state, inward, wide, lagged.2 (far _ h)⟩
      rwa [same] at stops
    · refine Loader.dwellCheck_of_left e stays state fun ⟨moving, inward, wide, lag⟩ => ?_
      rcases free with other | other | unbanded | close
      · exact other moving
      · exact other inward
      · exact wide.ne' unbanded
      · exact near _ close (lagged.1 lag)

/-! ### The boat part that is taken -/

theorem State.startHead_loader (s : State) (g : Segment) (rest : List Segment) :
    (s.startHead g rest).loader = s.loader.takePart s.gas.established g.boat := by
  have parts : ∀ u : State, ((u.takeThermal g.thermal).takeGas g.gas).loader = u.loader
      ∧ ((u.takeThermal g.thermal).takeGas g.gas).gas.established = u.gas.established := fun u =>
    have same := (u.takeThermal_sameBoat g.thermal).trans (State.takeGas_sameBoat _ g.gas)
    ⟨same.loader, same.established⟩
  unfold State.startHead
  dsimp only
  rw [State.raiseIf_loader, State.setLoader_loader, (parts _).1, (parts _).2]
  rfl

/-- With no segment current and no urgent command, an IDLE station takes the head of its queue (R154). -/
theorem State.executorSequence_of_idle {s : State} {g : Segment} {rest : List Segment} (idle : s.sup.station = .idle)
    (urgent : s.exec.urgent = none) (current : s.exec.current = none) (queue : s.exec.queue = g :: rest) :
    s.executorSequence
      = ((s.setExec { s.exec with shadow := AmendFields.absent }).setStation .running).startHead g rest := by
  have shadow : s.applyShadow = s.setExec { s.exec with shadow := AmendFields.absent } := by
    simp only [State.applyShadow, current]
  have none : s.applyShadow.takeUrgent = s.applyShadow := by
    rw [shadow]
    simp only [State.takeUrgent, State.setExec_exec, urgent]
  unfold State.executorSequence
  rw [none, shadow]
  simp only [State.judgeSegment, State.setExec_exec, current, State.setExec_sup, idle, queue, if_true]

/-- The sequence position of such a station hands the loader the head's boat part. -/
theorem exec_sequencePosition_of_idle {s : State} {g : Segment} {b : BoatSpec} {rest : List Segment}
    (h : s.NextReaches (s.n - 20)) (idle : s.sup.station = .idle) (urgent : s.exec.urgent = none)
    (current : s.exec.current = none) (queue : s.exec.queue = g :: rest) (boat : g.boat = some b) :
    ∃ t, exec .sequencePosition s = .next t ∧ t.loader
      = ({ s.loader with dwellTotal := 0, part := ⟨true, b.target, b.speed, b.dwellBand, b.maxDwell, false⟩ } : Loader).motionStart
          s.gas.established := by
  refine ⟨_, exec_row_of_reaches (by simp) h, ?_⟩
  have row : s.counted.sequenceWork = s.counted.executorSequence := if_neg fun joining => by
    have station : s.sup.station = .joining := joining.1
    simp [idle] at station
  rw [State.boundary_sequence h, row, State.executorSequence_of_idle (s := s.counted) idle urgent current queue]
  show (State.startHead _ g rest).loader = _
  rw [State.startHead_loader, boat]
  rfl

/-- Settles O34: the motion start of the loader that has taken the part. -/
theorem takenBoatPartsStartTheirMotion : Obligations.TakenBoatPartsStartTheirMotion := by
  intro s g b rest reaches idle urgent current queue boat state causes taken
  obtain ⟨t, row, loader⟩ := exec_sequencePosition_of_idle reaches idle urgent current queue boat
  have ready : taken.Ready := ⟨state, rfl, rfl, causes⟩
  have elsewhere : s.loader.position ≠ some b.target → t.loader =
      if s.gas.established then ({ taken with state := .waitCurtain } : Loader).beginMotion
      else { taken with state := .waitCurtain } :=
    fun away => loader.trans (Loader.motionStart_elsewhere _ ready away)
  refine ⟨t, row, fun there => loader.trans (Loader.motionStart_at_target _ ready there), fun away lost => ?_,
    fun p known away flows => ?_, fun unknown flows released => ?_⟩
  · rw [elsewhere away, lost]
    rfl
  · rw [elsewhere (by simp [known, away]), if_pos flows]
    exact Loader.beginMotion_known (l := { taken with state := .waitCurtain }) known
  · rw [elsewhere (by simp [unknown]), if_pos flows]
    exact (Loader.beginMotion_unknown (l := { taken with state := .waitCurtain }) unknown).trans (if_neg (by simp [taken, released]))

end Sys2Proof.Machine
end

section
/-! PROOFS. The segments' ids run on from one to the next (R142), and the records leave the queue from its head alone: what the
work of every boundary keeps of laws L6 and L11. -/

namespace Sys2Proof.Machine

/-! ### Consecutive ids (R142) -/

theorem nextSegmentId_within {n : Nat} (h : 1 ≤ n ∧ n ≤ 65535) : 1 ≤ nextSegmentId n ∧ nextSegmentId n ≤ 65535 := by
  unfold nextSegmentId
  split <;> omega

theorem idsConsecutive_tail {n a : Nat} {ids : List Nat} (h : idsConsecutive n (a :: ids)) : idsConsecutive n ids := by
  cases ids with
  | nil => trivial
  | cons b rest => exact h.2

theorem idsConsecutive_of_suffix {n : Nat} {ids all : List Nat} (suffix : ids <:+ all) (h : idsConsecutive n all) :
    idsConsecutive n ids := by
  obtain ⟨front, rfl⟩ := suffix
  induction front with
  | nil => exact h
  | cons a front ih => exact ih (idsConsecutive_tail h)

/-- The next id joins the ids at their end. -/
theorem idsConsecutive_append {n : Nat} : ∀ {ids : List Nat}, idsConsecutive n ids →
    idsConsecutive (nextSegmentId n) (ids ++ [n])
  | [], _ => rfl
  | [_], h => ⟨h, rfl⟩
  | _ :: _ :: _, h => ⟨h.1, idsConsecutive_append h.2⟩

/-- Behind an id stand the ids that follow it, counted round from 65535 to 1. -/
theorem idsConsecutive_mem {n a x : Nat} {ids : List Nat} (h : idsConsecutive n (a :: ids)) (first : 1 ≤ a ∧ a ≤ 65535)
    (mem : x ∈ ids) : ∃ k, 1 ≤ k ∧ k ≤ ids.length ∧ x = (a - 1 + k) % 65535 + 1 := by
  induction ids generalizing a with
  | nil => nomatch mem
  | cons b rest ih =>
    obtain ⟨next, h⟩ := h
    have follows : b = a % 65535 + 1 := by
      rw [next, nextSegmentId]
      split <;> omega
    rcases List.mem_cons.1 mem with rfl | mem
    · exact ⟨1, by simp, by simp, by omega⟩
    · obtain ⟨k, one, last, rfl⟩ := ih h (next ▸ nextSegmentId_within first) mem
      exact ⟨k + 1, by omega, by simpa using last, by omega⟩

/-- Fewer than 65535 consecutive ids are all different. -/
theorem idsConsecutive_nodup {n : Nat} {ids : List Nat} (h : idsConsecutive n ids) (within : ∀ a ∈ ids, 1 ≤ a ∧ a ≤ 65535)
    (short : ids.length < 65535) : ids.Nodup := by
  induction ids with
  | nil => exact List.nodup_nil
  | cons a ids ih =>
    have first := within a List.mem_cons_self
    rw [List.length_cons] at short
    refine List.nodup_cons.2 ⟨fun again => ?_, ih (idsConsecutive_tail h)
      (fun b mem => within b (List.mem_cons_of_mem _ mem)) (by omega)⟩
    obtain ⟨k, one, last, same⟩ := idsConsecutive_mem h first again
    omega

/-! ### Records that leave the queue -/

/-- From `s` to `t` records may have left the queue from its head, and none has joined it; no more than eight outcomes stand. -/
structure State.Consumes (s t : State) : Prop where
  queue : t.exec.queue <:+ s.exec.queue
  nextId : t.exec.nextId = s.exec.nextId
  outcomes : s.exec.outcomes.length ≤ 8 → t.exec.outcomes.length ≤ 8

theorem State.Consumes.rfl {s : State} : s.Consumes s := ⟨List.suffix_rfl, Eq.refl _, id⟩

theorem State.Consumes.trans {s t u : State} (h : s.Consumes t) (k : t.Consumes u) : s.Consumes u :=
  ⟨k.queue.trans h.queue, k.nextId.trans h.nextId, k.outcomes ∘ h.outcomes⟩

theorem State.Consumes.of_exec {s t : State} (h : t.exec = s.exec) : s.Consumes t := by
  constructor <;> simp [h]

theorem State.Consumes.of_current {s t : State} (h : t.exec = { s.exec with current := t.exec.current }) : s.Consumes t := by
  have queue : t.exec.queue = s.exec.queue := by rw [h]
  have nextId : t.exec.nextId = s.exec.nextId := by rw [h]
  have outcomes : t.exec.outcomes = s.exec.outcomes := by rw [h]
  exact ⟨queue ▸ List.suffix_rfl, nextId, fun eight => outcomes ▸ eight⟩

/-- What is left of a sound queue is sound. -/
theorem State.Consumes.queueInv {s t : State} (k : s.Consumes t) (h : s.QueueInv) : t.QueueInv := by
  obtain ⟨length, eight, next, ids, consecutive⟩ := h
  refine ⟨k.queue.length_le.trans length, k.outcomes eight, k.nextId ▸ next, fun g mem => ids g (k.queue.subset mem), ?_⟩
  rw [k.nextId]
  exact idsConsecutive_of_suffix (k.queue.map Segment.id) consecutive

/-! ### The sequence position -/

theorem State.applyShadow_consumes (s : State) : s.Consumes s.applyShadow := by
  unfold State.applyShadow
  split <;> exact ⟨List.suffix_rfl, rfl, id⟩

@[simp] theorem State.resume_exec (s : State) : s.resume.exec = s.exec := by
  unfold State.resume
  simp only [State.removeCause_exec, apply_ite State.exec, State.setLoader_exec, ite_self]
  rfl

/-- Of the urgent commands FLUSH alone reaches the queue, which it empties (R151). -/
theorem State.takeUrgent_consumes (s : State) : s.Consumes s.takeUrgent := by
  unfold State.takeUrgent
  split
  · exact .rfl
  · unfold State.takeSkip
    split
    · split <;> exact ⟨List.suffix_rfl, rfl, id⟩
    · exact ⟨List.suffix_rfl, rfl, id⟩
  · unfold State.takeHold
    split <;> exact ⟨List.suffix_rfl, rfl, id⟩
  · unfold State.takeResume
    split
    · exact State.Consumes.trans (.of_exec s.resume_exec) ⟨List.suffix_rfl, rfl, id⟩
    · exact ⟨List.suffix_rfl, rfl, id⟩
  · exact ⟨List.nil_suffix, rfl, id⟩

/-- The list of outcomes is cut at eight (R157). -/
theorem State.endSegment_consumes (s : State) (c : CurrentSegment) (r : SegmentResult) : s.Consumes (s.endSegment c r) :=
  ⟨List.suffix_rfl, rfl, fun _ => List.length_take_le _ _⟩

@[simp] theorem State.takeThermal_exec (s : State) (t : Option ThermalSpec) : (s.takeThermal t).exec = s.exec := by
  cases t <;> rfl

@[simp] theorem State.takeGas_exec (s : State) (g : Option GasSpec) : (s.takeGas g).exec = s.exec := by
  cases g <;> rfl

/-- The head that becomes current leaves the rest as the queue (R156). -/
theorem State.startHead_exec (s : State) (g : Segment) (rest : List Segment) :
    (s.startHead g rest).exec = { s.exec with queue := rest, current := some ⟨g, 0, 0, 0, false⟩ } := by
  simp [State.startHead]

theorem State.startHead_consumes {s : State} {g : Segment} {rest : List Segment} (queue : s.exec.queue = g :: rest) :
    s.Consumes (s.startHead g rest) := by
  constructor <;> simp [State.startHead_exec, queue]

theorem State.afterEnd_consumes (s : State) : s.Consumes s.afterEnd := by
  unfold State.afterEnd
  split
  · split
    · exact ⟨List.suffix_rfl, rfl, id⟩
    · exact State.startHead_consumes ‹_›
  · exact .rfl

theorem State.judgeSegment_consumes (s : State) : s.Consumes s.judgeSegment := by
  have ends : ∀ c r, s.Consumes (s.endSegment c r).afterEnd := fun c r =>
    (s.endSegment_consumes c r).trans (State.afterEnd_consumes _)
  unfold State.judgeSegment
  split
  · split
    · split
      · exact ends _ _
      · exact .rfl
    · split
      · exact ends _ _
      · exact .rfl
  · split
    · split
      · exact .rfl
      · exact State.Consumes.trans (t := s.setStation .running) ⟨List.suffix_rfl, rfl, id⟩ (State.startHead_consumes ‹_›)
    · exact .rfl

theorem State.executorSequence_consumes (s : State) : s.Consumes s.executorSequence :=
  (s.applyShadow_consumes.trans (State.takeUrgent_consumes _)).trans (State.judgeSegment_consumes _)

@[simp] theorem State.endJoining_exec (s : State) : s.endJoining.exec = s.exec := by
  unfold State.endJoining
  split
  · split <;> rfl
  · rfl

/-- In either of its two orders, the sequence position consumes. -/
theorem State.sequenceWork_consumes (s : State) : s.Consumes s.sequenceWork := by
  have joinFirst : s.Consumes s.endJoining.executorSequence :=
    (State.Consumes.of_exec s.endJoining_exec).trans (State.executorSequence_consumes _)
  have joinLast : s.Consumes s.executorSequence.endJoining :=
    s.executorSequence_consumes.trans (.of_exec (State.endJoining_exec _))
  unfold State.sequenceWork
  split
  · refine State.Consumes.trans (t := ite _ _ (ite _ _ _)) ?_ ⟨List.suffix_rfl, rfl, id⟩
    split
    · exact joinFirst
    · split
      · exact joinFirst
      · exact joinLast
  · exact s.executorSequence_consumes

/-! ### Boundaries -/

@[simp] theorem State.shareWork_exec (s : State) : s.shareWork.exec = s.exec := by rw [s.shareWork_eq]

@[simp] theorem State.slotWork_exec (s : State) : s.slotWork.exec = s.exec := by
  unfold State.slotWork
  dsimp only
  split <;> rfl

theorem State.windowBlocks_consumes (s : State) : s.Consumes s.windowBlocks := .of_current s.windowBlocks_windowWork.exec

@[simp] theorem State.countJoining_exec (s : State) : s.countJoining.exec = s.exec := by
  unfold State.countJoining
  split <;> rfl

theorem State.windowStartWork_consumes (s : State) (length : Nat) : s.Consumes (s.windowStartWork length) :=
  State.Consumes.trans (.of_exec (State.countJoining_exec (s.setTimer (s.timer.windowStart length))) : s.Consumes _)
    (State.windowBlocks_consumes _)

theorem State.firstWindowStartWork_consumes (s : State) (round : Nat) : s.Consumes (s.firstWindowStartWork round) :=
  State.Consumes.trans (t := s.setTimer (s.timer.firstWindowStart round)) ⟨List.suffix_rfl, rfl, id⟩
    (State.windowBlocks_consumes _)

theorem State.doIf_consumes {s : State} {f : State → State} (c : Bool) (h : s.Consumes (f s)) : s.Consumes (s.doIf c f) := by
  cases c
  · exact .rfl
  · exact h

theorem State.cutOffPositions_consumes (s : State) (length : Nat) : s.Consumes (s.cutOffPositions length) :=
  ((State.doIf_consumes _ s.sequenceWork_consumes).trans (State.doIf_consumes _ (.of_exec (State.shareWork_exec _)))).trans
    (State.doIf_consumes _ ⟨List.suffix_rfl, rfl, id⟩)

theorem State.raisePosition_consumes (s : State) : s.Consumes s.raisePosition := by
  unfold State.raisePosition
  dsimp only
  split
  · exact .of_exec s.slotWork_exec
  split
  · exact s.sequenceWork_consumes
  split
  · exact .of_exec s.shareWork_exec
  split
  · exact ⟨List.suffix_rfl, rfl, id⟩
  · exact .rfl

theorem State.listeningBoundary_consumes (s : State) : s.Consumes s.listeningBoundary := by
  have counted : s.Consumes s.countUp.endListening := by
    unfold State.endListening
    split <;> exact ⟨List.suffix_rfl, rfl, id⟩
  unfold State.listeningBoundary
  dsimp only
  split
  · split
    · exact counted.trans (State.firstWindowStartWork_consumes _ _)
    · exact counted
  · exact counted

theorem State.phasedBoundary_consumes (s : State) : s.Consumes s.phasedBoundary := by
  have counted : s.Consumes s.countUp := ⟨List.suffix_rfl, rfl, id⟩
  unfold State.phasedBoundary
  dsimp only
  split
  · exact (counted.trans (State.cutOffPositions_consumes _ _)).trans (State.windowStartWork_consumes _ _)
  · exact counted.trans (State.raisePosition_consumes _)

theorem State.boundaryWork_consumes (s : State) : s.Consumes s.boundaryWork := by
  unfold State.boundaryWork
  split
  · exact .rfl
  · exact s.listeningBoundary_consumes
  · exact s.phasedBoundary_consumes

theorem State.boundary_consumes (s : State) : s.Consumes s.boundary := by
  unfold State.boundary
  dsimp only
  split
  · exact s.boundaryWork_consumes.trans ⟨List.suffix_rfl, rfl, id⟩
  · exact s.boundaryWork_consumes

theorem State.boundaries_consumes : ∀ (k : Nat) (s : State), s.Consumes (State.boundaries k s)
  | 0, _ => .rfl
  | k + 1, s => s.boundary_consumes.trans (State.boundaries_consumes k _)

/-! ### The mains -/

theorem State.zeroCross_consumes (s : State) (e : Nat) : s.Consumes (s.zeroCross e) := by
  have restored : s.Consumes (s.setTimer { s.timer with mains := .present }) := ⟨List.suffix_rfl, rfl, id⟩
  unfold State.zeroCross
  split
  · exact .rfl
  split
  · dsimp only
    split
    · exact restored
    · exact restored.trans (State.boundary_consumes _)
  · split
    · exact s.boundary_consumes
    split
    · exact .rfl
    · exact State.boundaries_consumes _ s

theorem State.loseMains_consumes (s : State) : s.Consumes s.loseMains := by
  have lost : s.Consumes ((s.setTimer { s.timer with mains := .lost }).raise reasonMainsLost) := ⟨List.suffix_rfl, rfl, id⟩
  have work := fun u : State => u.boundaryWork_consumes
  unfold State.loseMains
  split
  · exact (((lost.trans (work _)).trans (work _)).trans (work _)).trans ⟨List.suffix_rfl, rfl, id⟩
  · exact .rfl

theorem State.substitute_consumes (s : State) : s.Consumes s.substitute := by
  unfold State.substitute
  split
  · exact s.boundary_consumes
  · exact .rfl

/-- A position's row is a boundary, or nothing. -/
theorem State.boundary_if_consumes (s : State) (c : Bool) : s.Consumes (if c then s.boundary else s) := by
  cases c
  · exact .rfl
  · exact s.boundary_consumes

end Sys2Proof.Machine
end

section
/-! PROOFS. Every step keeps laws L6 and L11, its third part apart (R142, R143, R157): APPEND adds the next id, the resets empty the
queue, and no other command adds a record. -/

namespace Sys2Proof.Machine

/-! ### The commands that add no record -/

theorem State.command_consumes {s : State} {code : Byte} {act : State → State} (h : ∀ u : State, u.Consumes (act u)) :
    s.Consumes (s.command code act) := by
  unfold State.command
  split
  · exact State.Consumes.trans (t := s.endTransaction) ⟨List.suffix_rfl, rfl, id⟩ (h _)
  · exact .rfl

/-- The host's commands that act on the host port, or on the executor beside its queue. -/
theorem exec_consumes_of_host {c : Instr}
    (hc : c ∈ [Instr.nop, .amend, .urgent, .readStatus, .readZone, .readLoader, .readPeer, .readQueue, .readOutcome,
      .clearReasons, .setMask, .setLowMark, .clearHalt]) {s t : State} (e : exec c s = .next t) : s.Consumes t := by
  simp only [List.mem_cons, List.not_mem_nil, or_false] at hc
  rcases hc with rfl | rfl | rfl | rfl | rfl | rfl | rfl | rfl | rfl | rfl | rfl | rfl | rfl
  all_goals
    cases e
    refine State.command_consumes fun u => ?_
    repeat' split
    all_goals exact ⟨List.suffix_rfl, rfl, id⟩

theorem execResetTrip_consumes {s t : State} (e : execResetTrip s = .next t) : s.Consumes t := by
  cases e
  refine State.command_consumes fun u => ?_
  dsimp only
  repeat' split
  all_goals exact ⟨List.suffix_rfl, rfl, id⟩

theorem State.configure_consumes (s : State) (r : ResultCode) (c : Store) (echo : List Byte) :
    s.Consumes (s.configure r c echo) := by
  unfold State.configure
  split <;> exact ⟨List.suffix_rfl, rfl, id⟩

/-- The configuration commands reach the store alone. -/
theorem exec_consumes_of_configuration {c : Instr} (hc : c ∈ [Instr.setBank, .setZone, .setGas, .setLoader, .setBand])
    {s t : State} (e : exec c s = .next t) : s.Consumes t := by
  simp only [List.mem_cons, List.not_mem_nil, or_false] at hc
  rcases hc with rfl | rfl | rfl | rfl | rfl
  case inl | inr.inr.inl | inr.inr.inr.inl =>
    cases e
    exact State.command_consumes fun u => u.configure_consumes _ _ _
  all_goals
    cases e
    refine State.command_consumes fun u => ?_
    dsimp only
    split
    · exact ⟨List.suffix_rfl, rfl, id⟩
    · exact u.configure_consumes _ _ _

@[simp] theorem State.halt_exec (s : State) : s.halt.exec = s.exec := by
  unfold State.halt
  dsimp only
  split <;> rfl

theorem execStart_consumes {s t : State} (e : execStart s = .next t) : s.Consumes t := by
  have begins : ∀ u : State, u.begin.exec = u.exec := fun u => by
    unfold State.begin
    simp only [apply_ite State.exec, State.halt_exec, ite_self]
    rfl
  cases e
  refine State.command_consumes fun u => ?_
  split
  · split
    · exact ⟨List.suffix_rfl, rfl, id⟩
    · exact .of_exec (begins u)
  · exact ⟨List.suffix_rfl, rfl, id⟩

theorem execHaltAssert_consumes {s t : State} (e : execHaltAssert s = .next t) : s.Consumes t := by
  cases e
  split
  · exact .rfl
  · dsimp only
    split
    · exact ⟨List.suffix_rfl, rfl, id⟩
    · exact .of_exec (State.halt_exec _)

theorem State.frameArrives_consumes (s : State) (f : CanFrame) : s.Consumes (s.frameArrives f) := by
  obtain ⟨timer, bank, host, arrived⟩ := s.frameArrives_blocks f
  rw [arrived]
  exact ⟨List.suffix_rfl, rfl, id⟩

theorem State.conversionComplete_exec (s : State) (m : Int) : (s.conversionComplete m).exec = s.exec := by
  have control : ∀ (u : State) (z : ZoneId) (r : Reading), (u.controlConverted z r).exec = u.exec := fun u z r => by
    unfold State.controlConverted
    split
    · exact State.raiseIf_exec _ _ _
    · rfl
  have limit : ∀ (u : State) (z : ZoneId) (r : Reading), (u.limitConverted z r).exec = u.exec := fun u z r => by
    unfold State.limitConverted
    split
    · exact State.report_exec _
    · rfl
  unfold State.conversionComplete
  split
  · exact control _ _ _
  · exact limit _ _ _
  · exact State.raiseIf_exec _ _ _
  · rfl
  · rfl
  · exact State.raiseIf_exec _ _ _

theorem State.motionTick_exec (s : State) : s.motionTick.exec = s.exec := by
  have steps : s.tickSteps.exec = s.exec := by
    unfold State.tickSteps
    dsimp only
    split <;> simp [State.loaderStalled]
  unfold State.motionTick
  dsimp only
  split <;> exact steps

/-- What the bank line, the plant's inputs and the frames of the host port bring reaches one block other than the executor. -/
theorem exec_consumes_of_input {c : Instr}
    (hc : c ∈ [Instr.announceSent, .transmitAttemptFail, .leaveSent, .homeSwitchActivation, .homeSwitchRelease, .haltRelease,
      .frameError, .unknownCommand, .chipSelectReleaseDiscarding]) {s t : State} (e : exec c s = .next t) : s.Consumes t := by
  simp only [List.mem_cons, List.not_mem_nil, or_false] at hc
  rcases hc with rfl | rfl | rfl | rfl | rfl | rfl | rfl | rfl | rfl
  all_goals
    cases e
    repeat' split
    all_goals exact ⟨List.suffix_rfl, rfl, id⟩

theorem State.beginTransaction_consumes (s : State) : s.Consumes s.beginTransaction := by
  unfold State.beginTransaction
  split <;> exact ⟨List.suffix_rfl, rfl, id⟩

theorem State.clockByte_consumes (s : State) (b : Byte) : s.Consumes (s.clockByte b) := by
  unfold State.clockByte
  split <;> exact ⟨List.suffix_rfl, rfl, id⟩

/-! ### Every command -/

/-- The commands after which the queue may hold a record that it did not hold, or the ids begin again at 1. -/
def writesTheQueue : Instr → Bool
  | .append | .restart | .hardReset _ => true
  | _ => false

theorem exec_consumes {c : Instr} (hc : writesTheQueue c = false) {s t : State} (e : exec c s = .next t) : s.Consumes t := by
  cases c with
  | hardReset straps | restart | append => nomatch hc
  | nop | amend | urgent | readStatus | readZone | readLoader | readPeer | readQueue | readOutcome | clearReasons | setMask
  | setLowMark | clearHalt => exact exec_consumes_of_host (by decide) e
  | setBank | setZone | setGas | setLoader | setBand => exact exec_consumes_of_configuration (by decide) e
  | resetTrip => exact execResetTrip_consumes e
  | start => exact execStart_consumes e
  | haltAssert => exact execHaltAssert_consumes e
  | zeroCrossEdge elapsed => cases e; exact s.zeroCross_consumes elapsed
  | mainsLost => cases e; exact s.loseMains_consumes
  | substituteBoundary => cases e; exact s.substitute_consumes
  | listeningEnd | firstWindowStart | windowStart | ownSlot | sequencePosition | sharePosition | controlPosition =>
    cases e
    exact s.boundary_if_consumes _
  | announceSent | transmitAttemptFail | leaveSent | homeSwitchActivation | homeSwitchRelease | haltRelease | frameError
  | unknownCommand | chipSelectReleaseDiscarding => exact exec_consumes_of_input (by decide) e
  | announceArrival frame | leaveArrival frame => cases e; exact s.frameArrives_consumes frame
  | burnoutTest loopOhms => cases e; exact ⟨List.suffix_rfl, rfl, id⟩
  | conversionComplete measured => cases e; exact .of_exec (s.conversionComplete_exec measured)
  | motionTick => cases e; exact .of_exec s.motionTick_exec
  | speedUpdate =>
    cases e
    split
    · exact .of_exec s.motionTick_exec
    · exact .rfl
  | transactionBegin => cases e; exact s.beginTransaction_consumes
  | byteTime b => cases e; exact s.clockByte_consumes b

theorem State.QueueInv.command {s : State} {code : Byte} {act : State → State} (work : ∀ u : State, u.QueueInv → (act u).QueueInv)
    (h : s.QueueInv) : (s.command code act).QueueInv := by
  unfold State.command
  split
  · exact work s.endTransaction h
  · exact h

/-- A record joins a queue that is not full, under the id that follows those in it (R142). -/
theorem State.QueueInv.append {s : State} (h : s.QueueInv) (room : s.exec.queue.length < 16) (g : Segment) :
    (s.setExec (s.exec.append g)).QueueInv := by
  obtain ⟨-, eight, next, ids, consecutive⟩ := h
  refine ⟨?_, eight, nextSegmentId_within next, fun f mem => ?_, ?_⟩
  · simpa [Executor.append] using room
  · rcases List.mem_append.1 mem with queued | last
    · exact ids f queued
    · rw [List.mem_singleton.1 last]
      exact next
  · simpa [Executor.append] using idsConsecutive_append consecutive

/-- RESTART and hard reset leave the queue and the outcomes empty, and 1 as the next id (R141, R157). -/
theorem State.queueInv_of_reset {s : State} (reset : s.exec = Executor.reset) : s.QueueInv := by
  unfold State.QueueInv
  rw [reset]
  simp [Executor.reset, idsConsecutive]

theorem exec_queueInv {c : Instr} {s t : State} (e : exec c s = .next t) (h : s.QueueInv) : t.QueueInv := by
  by_cases writes : writesTheQueue c = true
  · cases c with
    | hardReset straps => cases e; exact State.queueInv_of_reset rfl
    | restart => cases e; exact h.command fun u _ => State.queueInv_of_reset (s := u.restart.reply .ok []) rfl
    | append =>
      cases e
      refine h.command fun u k => ?_
      split
      · exact k
      split
      · exact k
      · exact State.QueueInv.append k (not_le.1 ‹_›) _
    | _ => nomatch writes
  · exact (exec_consumes (Bool.eq_false_iff.2 writes) e).queueInv h

/-- Settles O54: a command consumes, appends or resets, and each of these keeps the queue sound. -/
theorem stepsKeepTheQueue : Obligations.StepsKeepTheQueue := by
  refine ⟨fun s t h e => ?_, fun s ⟨length, _, _, ids, consecutive⟩ => ?_⟩
  · obtain rfl | ⟨c, rest, e⟩ := step_cases e
    · exact h
    · exact exec_queueInv (s := s.setPending rest) e h
  · refine idsConsecutive_nodup consecutive (fun a mem => ?_) (by simpa using length.trans_lt (by decide))
    obtain ⟨g, queued, rfl⟩ := List.mem_map.1 mem
    exact ids g queued

end Sys2Proof.Machine
end

section
/-! PROOFS. The operations of the segment executor, each said once: the parts that a head hands to its blocks, the end of a segment,
and the third step of the sequence position by its cases (R92 to R94, R111, R125, R144, R149, R154 to R157). -/

namespace Sys2Proof.Machine

/-! ### The head's parts (R92, R93, R111, R125) -/

/-- A target of a zone in use starts from its start value, clamped to the zone's maximum (R92, R93). -/
theorem State.takeTarget_of_targeted {s : State} {t : ThermalSpec} {z : ZoneId} {v : Nat} (target : t.targets.get z = some v)
    (inUse : (s.store.zones.get z).inUse = true) :
    s.takeTarget t z = { s.ramp.zones.get z with
      setpoint := some (rampStart (s.store.zones.get z).maxTemp (s.scanner.ct.get z) (s.ramp.zones.get z).setpoint)
      start := some (rampStart (s.store.zones.get z).maxTemp (s.scanner.ct.get z) (s.ramp.zones.get z).setpoint)
      target := some (min v (s.store.zones.get z).maxTemp) } := by
  simp only [State.takeTarget, target, inUse, if_true, clampNat_zero]

theorem State.takeTarget_of_untargeted {s : State} {t : ThermalSpec} {z : ZoneId}
    (h : t.targets.get z = none ∨ (s.store.zones.get z).inUse = false) :
    s.takeTarget t z = { s.ramp.zones.get z with start := none, target := none } := by
  unfold State.takeTarget
  dsimp only
  split
  · rename_i v target
    have unused : (s.store.zones.get z).inUse = false := h.resolve_left (by simp [target])
    exact if_neg (by simp [unused])
  · rfl

/-- A present setpoint is the start value; without one it is a VALID reading, within the zone's maximum, and else 0 (R93). -/
theorem rampStart_absent (maxTemp : Nat) (r : Reading) :
    rampStart maxTemp r none = if r.status = .valid then min r.value maxTemp else 0 := by
  simp only [rampStart, r.isValid_iff, clampNat_zero]

@[simp] theorem State.takeThermal_sup (s : State) (t : Option ThermalSpec) : (s.takeThermal t).sup = s.sup := by
  cases t <;> rfl

@[simp] theorem State.takeThermal_gas (s : State) (t : Option ThermalSpec) : (s.takeThermal t).gas = s.gas := by
  cases t <;> rfl

@[simp] theorem State.takeGas_sup (s : State) (g : Option GasSpec) : (s.takeGas g).sup = s.sup := by cases g <;> rfl

/-- The gas unit takes the part by the same rule, whatever the ramp generator has taken. -/
theorem State.takeGas_gas {s t : State} (gas : t.gas = s.gas) (sup : t.sup = s.sup) (g : Option GasSpec) :
    (t.takeGas g).gas = (s.takeGas g).gas := by
  have litre : t.halfCyclesPerLitre = s.halfCyclesPerLitre := by
    unfold State.halfCyclesPerLitre State.store
    rw [sup]
  cases g <;> simp only [State.takeGas, State.setGas_gas, gas, litre]

@[simp] theorem State.startHead_sup (s : State) (g : Segment) (rest : List Segment) : (s.startHead g rest).sup = s.sup := by
  simp [State.startHead]

theorem State.startHead_ramp (s : State) (g : Segment) (rest : List Segment) :
    (s.startHead g rest).ramp = (s.takeThermal g.thermal).ramp := by
  unfold State.startHead
  simp only [State.raiseIf_ramp, State.setLoader_ramp, State.takeGas_ramp]
  cases g.thermal <;> rfl

theorem State.startHead_gas (s : State) (g : Segment) (rest : List Segment) :
    (s.startHead g rest).gas = (s.takeGas g.gas).gas := by
  unfold State.startHead
  simp only [State.raiseIf_gas, State.setLoader_gas]
  exact State.takeGas_gas (by simp) (by simp) _

/-- QUEUE_LOW is judged by the length left behind the head (R144). -/
theorem State.startHead_host (s : State) (g : Segment) (rest : List Segment) :
    (s.startHead g rest).host = { s.host with reasons := s.host.reasons
      ||| (if 0 < s.exec.lowMark ∧ rest.length ≤ s.exec.lowMark then 0x0400 else 0) } := by
  unfold State.startHead
  simp [State.raiseIf_eq, reasonQueueLow]

/-- The blocks take the parts of the head from what they held before it. -/
theorem State.startHead_takenBy (s : State) (g : Segment) (rest : List Segment) :
    g.TakenBy s s.ramp s.gas s.loader (s.startHead g rest) := by
  unfold Segment.TakenBy
  rw [s.startHead_ramp, s.startHead_gas, s.startHead_loader]
  refine ⟨fun absent => ?_, fun h part => ?_, fun absent => ?_, fun p part => ?_, fun absent => ?_, fun b part => ?_⟩
  · rw [absent]
    rfl
  · have zone : ∀ z, ((s.takeThermal (some h)).ramp.zones.get z) = s.takeTarget h z := fun z => PerZone.get_ofFn _ z
    rw [part]
    refine ⟨?_, fun z => ⟨fun v target inUse => ?_, fun free => ?_⟩⟩
    · simp [State.takeThermal, clampNat_zero, HoldCauses.empty]
    · rw [zone, State.takeTarget_of_targeted target inUse]
      cases (s.ramp.zones.get z).setpoint with
      | some p => rfl
      | none => rw [rampStart_absent]
    · rw [zone, State.takeTarget_of_untargeted free]
  · rw [absent]
    rfl
  · rw [part]
    rfl
  · rw [absent]
    rfl
  · rw [part]
    rfl

/-- Of the state before, the taking reads the store and the scanner's readings. -/
theorem Segment.TakenBy.of_same {g : Segment} {s u t : State} {r : Ramp} {a : Gas} {l : Loader} (h : g.TakenBy s r a l t)
    (store : u.sup.store = s.sup.store) (scanner : u.scanner = s.scanner) : g.TakenBy u r a l t := by
  unfold Segment.TakenBy State.store at h ⊢
  rw [store, scanner]
  exact h

/-! ### The end of a segment (R155 to R157) -/

section
variable (s : State) (c : CurrentSegment) (r : SegmentResult)

@[simp] theorem State.endSegment_sup : (s.endSegment c r).sup = s.sup := by simp [State.endSegment]
@[simp] theorem State.endSegment_ramp : (s.endSegment c r).ramp = s.ramp.untargetAll := by simp [State.endSegment]
@[simp] theorem State.endSegment_gas : (s.endSegment c r).gas = s.gas.leavePart := by simp [State.endSegment]
@[simp] theorem State.endSegment_loader : (s.endSegment c r).loader = s.loader.leavePart := by simp [State.endSegment]
@[simp] theorem State.endSegment_host :
    (s.endSegment c r).host = { s.host with reasons := s.host.reasons ||| reasonSegmentDone } := by simp [State.endSegment]

/-- The ended segment's outcome heads the list (R157). -/
@[simp] theorem State.endSegment_exec : (s.endSegment c r).exec = { s.exec with
    current := none
    outcomes := (s.outcomeOf c r :: s.exec.outcomes).take 8 } := by simp [State.endSegment]

end

theorem State.afterEnd_of_not_running {s : State} (station : s.sup.station ≠ .running) : s.afterEnd = s := if_neg station

theorem State.afterEnd_of_empty {s : State} (running : s.sup.station = .running) (queue : s.exec.queue = []) :
    s.afterEnd = (s.setStation .idle).raise reasonQueueEmpty := by
  simp only [State.afterEnd, running, if_true, queue]

theorem State.afterEnd_of_queue {s : State} {g : Segment} {rest : List Segment} (running : s.sup.station = .running)
    (queue : s.exec.queue = g :: rest) : s.afterEnd = s.startHead g rest := by
  simp only [State.afterEnd, running, if_true, queue]

/-- What the end of a segment and the start of the next leave. -/
theorem State.endsSegment (q : State) (c : CurrentSegment) (r : SegmentResult) :
    q.EndsSegment c r (q.endSegment c r).afterEnd := by
  have sup := q.endSegment_sup c r
  have exec := q.endSegment_exec c r
  have host := q.endSegment_host c r
  have ramp := q.endSegment_ramp c r
  have gas := q.endSegment_gas c r
  have loader := q.endSegment_loader c r
  have same := q.endSegment_same c r
  generalize q.endSegment c r = u at sup exec host ramp gas loader same ⊢
  refine ⟨fun station => ?_, fun running queue => ?_, fun g rest running queue => ?_⟩
  · rw [State.afterEnd_of_not_running (sup ▸ station)]
    exact ⟨sup, exec, host, ramp, gas, loader⟩
  · rw [State.afterEnd_of_empty (sup ▸ running) (by rw [exec]; exact queue)]
    refine ⟨?_, exec, ?_, ramp, gas, loader⟩
    · rw [← sup]
      rfl
    · rw [State.raise_host, State.setStation_eq, host, BitVec.or_assoc]
      rfl
  · rw [State.afterEnd_of_queue (sup ▸ running) (by rw [exec]; exact queue)]
    have parts := (u.startHead_takenBy g rest).of_same same.store.symm same.scanner.symm
    rw [ramp, gas, loader] at parts
    refine ⟨by rw [State.startHead_sup, sup], ?_, ?_, parts⟩
    · rw [State.startHead_exec, exec]
      rfl
    · rw [State.startHead_host, host, exec]
      rfl

/-! ### The third step by its cases (R149, R154, R156) -/

theorem State.segmentComplete_iff (s : State) (c : CurrentSegment) : s.segmentComplete c = true ↔
    (c.record.thermal.isSome = true → s.ramp.complete = true) ∧ (c.record.gas.isSome = true → s.gas.part.complete = true)
      ∧ (c.record.boat.isSome = true → s.loader.part.complete = true) ∧ c.record.minDuration ≤ c.windows := by
  have present : ∀ {α : Type} (part : Option α) (b : Bool), (part.isNone || b) = true ↔ (part.isSome = true → b = true) :=
    fun part b => by cases part <;> simp
  simp only [State.segmentComplete, Bool.and_eq_true, present, decide_eq_true_eq, and_assoc]

theorem State.skipMayEnd_iff (s : State) (c : CurrentSegment) :
    s.skipMayEnd c = true ↔ c.record.boat = none ∨ s.loader.inMotion = false := by
  simp [State.skipMayEnd]

section
variable {w : State} {c : CurrentSegment}

theorem State.judgeSegment_of_done (current : w.exec.current = some c) (done : c.DoneIn w) :
    w.judgeSegment = (w.endSegment c .done).afterEnd := by
  obtain ⟨noSkip, running, complete⟩ := done
  have ends : w.sup.station = .running ∧ w.segmentComplete c = true := ⟨running, (w.segmentComplete_iff c).2 complete⟩
  simp only [State.judgeSegment, current, noSkip, Bool.false_eq_true, if_false]
  exact if_pos ends

theorem State.judgeSegment_of_skipped (current : w.exec.current = some c) (skipped : c.SkippedIn w) :
    w.judgeSegment = (w.endSegment c .skipped).afterEnd := by
  obtain ⟨pending, station, free⟩ := skipped
  have ends := And.intro station ((w.skipMayEnd_iff c).2 free)
  simp only [State.judgeSegment, current, pending, if_true]
  exact if_pos ends

theorem State.judgeSegment_of_stays (current : w.exec.current = some c) (notDone : ¬ c.DoneIn w) (notSkipped : ¬ c.SkippedIn w) :
    w.judgeSegment = w := by
  unfold State.judgeSegment
  simp only [current]
  split
  · rename_i pending
    exact if_neg fun ends => notSkipped ⟨pending, ends.1, (w.skipMayEnd_iff c).1 ends.2⟩
  · rename_i noSkip
    exact if_neg fun ends => notDone ⟨Bool.eq_false_iff.2 noSkip, ends.1, (w.segmentComplete_iff c).1 ends.2⟩

theorem State.judgeSegment_of_head {g : Segment} {rest : List Segment} (current : w.exec.current = none)
    (idle : w.sup.station = .idle) (queue : w.exec.queue = g :: rest) :
    w.judgeSegment = (w.setStation .running).startHead g rest := by
  simp only [State.judgeSegment, current, idle, if_true, queue]

theorem State.judgeSegment_of_no_head (current : w.exec.current = none) (h : w.sup.station ≠ .idle ∨ w.exec.queue = []) :
    w.judgeSegment = w := by
  unfold State.judgeSegment
  simp only [current]
  split
  · rename_i idle
    simp only [h.resolve_left (not_not.2 idle)]
  · rfl

end

/-- The third step judges the segment as the rules say. -/
theorem State.judgesSegment (w : State) : w.JudgesSegment w.judgeSegment := by
  have same : w.judgeSegment = w → w.SameSequenceBlocks w.judgeSegment := fun stays => by
    rw [stays]
    exact ⟨rfl, rfl, rfl, rfl, rfl, rfl⟩
  refine ⟨fun c current => ⟨fun done => ?_, fun skipped => ?_, fun notDone notSkipped => ?_⟩,
    fun current => ⟨fun g rest idle queue => ?_, fun h => ?_⟩⟩
  · rw [State.judgeSegment_of_done current done]
    exact w.endsSegment c .done
  · rw [State.judgeSegment_of_skipped current skipped]
    exact w.endsSegment c .skipped
  · exact same (State.judgeSegment_of_stays current notDone notSkipped)
  · rw [State.judgeSegment_of_head current idle queue]
    exact ⟨(w.setStation .running).startHead_sup g rest, (w.setStation .running).startHead_exec g rest,
      (w.setStation .running).startHead_host g rest, ((w.setStation .running).startHead_takenBy g rest).of_same rfl rfl⟩
  · exact same (State.judgeSegment_of_no_head current h)

/-- Every case of the third step: nothing, the end of the current segment, or the start of the head. -/
theorem State.judgeSegment_cases (w : State) :
    w.judgeSegment = w ∨ (∃ c r, w.judgeSegment = (w.endSegment c r).afterEnd)
      ∨ ∃ g rest, w.sup.station = .idle ∧ w.judgeSegment = (w.setStation .running).startHead g rest := by
  unfold State.judgeSegment
  split
  · split
    · split
      · exact .inr (.inl ⟨_, _, rfl⟩)
      · exact .inl rfl
    · split
      · exact .inr (.inl ⟨_, _, rfl⟩)
      · exact .inl rfl
  · split
    · split
      · exact .inl rfl
      · exact .inr (.inr ⟨_, _, ‹_›, rfl⟩)
    · exact .inl rfl

/-- Every case of what follows an end: nothing outside RUNNING, IDLE, or the start of the head. -/
theorem State.afterEnd_cases (s : State) :
    s.sup.station ≠ .running ∧ s.afterEnd = s
      ∨ s.sup.station = .running ∧ (s.afterEnd = (s.setStation .idle).raise reasonQueueEmpty
        ∨ ∃ g rest, s.afterEnd = s.startHead g rest) := by
  by_cases running : s.sup.station = .running
  · refine .inr ⟨running, ?_⟩
    cases queue : s.exec.queue with
    | nil => exact .inl (State.afterEnd_of_empty running queue)
    | cons g rest => exact .inr ⟨g, rest, State.afterEnd_of_queue running queue⟩
  · exact .inl ⟨running, State.afterEnd_of_not_running running⟩

/-! ### What the third step leaves alone -/

/-- The third step reaches queue, current segment and outcomes of the executor. -/
theorem State.judgeSegment_exec (w : State) : ∃ queue current outcomes,
    w.judgeSegment.exec = { w.exec with queue := queue, current := current, outcomes := outcomes } := by
  obtain same | ⟨c, r, ends⟩ | ⟨g, rest, -, starts⟩ := w.judgeSegment_cases
  · rw [same]
    exact ⟨_, _, _, rfl⟩
  · rw [ends]
    obtain ⟨-, after⟩ | ⟨-, after | ⟨g, rest, after⟩⟩ := (w.endSegment c r).afterEnd_cases
    · rw [after, State.endSegment_exec]
      exact ⟨_, _, _, rfl⟩
    · rw [after, State.raise_exec, State.setStation_eq, State.endSegment_exec]
      exact ⟨_, _, _, rfl⟩
    · rw [after, State.startHead_exec, State.endSegment_exec]
      exact ⟨_, _, _, rfl⟩
  · rw [starts]
    exact ⟨_, _, _, State.startHead_exec _ g rest⟩

/-- No segment of a HELD station leads to another station state. -/
theorem State.judgeSegment_of_held {w : State} (held : w.sup.station = .held) : w.judgeSegment.sup = w.sup := by
  obtain same | ⟨c, r, ends⟩ | ⟨g, rest, idle, -⟩ := w.judgeSegment_cases
  · rw [same]
  · rw [ends, State.afterEnd_of_not_running (s := w.endSegment c r) (by simp [held]), State.endSegment_sup]
  · rw [held] at idle
    nomatch idle

/-- The third step moves a station between RUNNING and IDLE alone. -/
theorem State.judgeSegment_runs {w : State} (h : w.sup.station = .running ∨ w.sup.station = .idle) :
    w.judgeSegment.sup.station = .running ∨ w.judgeSegment.sup.station = .idle := by
  obtain same | ⟨c, r, ends⟩ | ⟨g, rest, -, starts⟩ := w.judgeSegment_cases
  · rw [same]
    exact h
  · rw [ends]
    obtain ⟨-, after⟩ | ⟨running, after | ⟨g, rest, after⟩⟩ := (w.endSegment c r).afterEnd_cases
    · rw [after, State.endSegment_sup]
      exact h
    · rw [after]
      exact .inr rfl
    · rw [after, State.startHead_sup]
      exact .inl running
  · rw [starts, State.startHead_sup]
    exact .inl rfl

/-- What holds of the loader, and after a part has left and after one is taken, holds of it after the third step. -/
theorem State.judgeSegment_loader {P : Loader → Prop} {w : State} (leave : ∀ l : Loader, P l → P l.leavePart)
    (take : ∀ (e : Bool) (b : Option BoatSpec) (l : Loader), P l → P (l.takePart e b)) (h : P w.loader) :
    P w.judgeSegment.loader := by
  have starts : ∀ (u : State) (g : Segment) (rest : List Segment), P u.loader → P (u.startHead g rest).loader :=
    fun u g rest k => by
      rw [State.startHead_loader]
      exact take _ _ _ k
  obtain same | ⟨c, r, ends⟩ | ⟨g, rest, -, head⟩ := w.judgeSegment_cases
  · rw [same]
    exact h
  · have left : P (w.endSegment c r).loader := by
      rw [State.endSegment_loader]
      exact leave _ h
    rw [ends]
    obtain ⟨-, after⟩ | ⟨-, after | ⟨g, rest, after⟩⟩ := (w.endSegment c r).afterEnd_cases
    · rw [after]
      exact left
    · rw [after]
      exact left
    · rw [after]
      exact starts _ g rest left
  · rw [head]
    exact starts _ g rest h

/-- HOLD is no part's cause (R132). -/
theorem State.judgeSegment_hold (w : State) : w.judgeSegment.loader.causes.hold = w.loader.causes.hold :=
  State.judgeSegment_loader (P := fun l => l.causes.hold = w.loader.causes.hold) (fun _ => id)
    (fun e b l h => (congrArg Prod.fst (l.takePart_keeps e b).station).trans h) rfl

theorem Loader.motionStart_not_stalled (e : Bool) {l : Loader} (h : l.state ≠ .stalled) : (l.motionStart e).state ≠ .stalled := by
  have begins : ∀ m : Loader, m.beginMotion.state ≠ .stalled := fun m => by
    unfold Loader.beginMotion Loader.endHoming Loader.enterMoving Loader.reached
    split
    · simp
    · dsimp only
      repeat' split
      all_goals simp
  obtain same | ⟨-, -, there⟩ | ⟨-, -, waits⟩ | ⟨-, -, -, moves⟩ := l.motionStart_cases e
  · rwa [same]
  · rwa [there]
  · simp [waits]
  · rw [moves]
    exact begins _

/-- No motion start and no part stalls the loader. -/
theorem State.judgeSegment_not_stalled {w : State} (h : w.loader.state ≠ .stalled) : w.judgeSegment.loader.state ≠ .stalled := by
  refine State.judgeSegment_loader (P := fun l => l.state ≠ .stalled) (fun l k => ?_) (fun e b l k => ?_) h
  · show (if l.state = .waitCurtain ∨ l.state = .dwell then LoaderState.atRest else l.state) ≠ .stalled
    split
    · decide
    · exact k
  · cases b with
    | none => exact k
    | some b => exact Loader.motionStart_not_stalled e k

/-- A cause that leaves stalls no loader (R134). -/
theorem Loader.removeCause_not_stalled (e : Bool) (k : StopCause) {l : Loader} (h : l.state ≠ .stalled) :
    (l.removeCause e k).state ≠ .stalled := by
  unfold Loader.removeCause
  split
  · dsimp only
    split
    · exact Loader.motionStart_not_stalled e h
    · split
      · exact Loader.motionStart_not_stalled e (by simp)
      · split
        · simp
        · exact h
    all_goals exact h
  · exact h

end Sys2Proof.Machine
end

section
/-! PROOFS. The row SEQUENCE_POSITION, and the statements about the head that becomes current and the segment that ends (R145, R147,
R149, R154 to R157). -/

namespace Sys2Proof.Machine

/-! ### The row and its three steps (R145) -/

/-- SEQUENCE_POSITION is the work of its position and the half-cycle that begins at it. -/
theorem exec_sequencePosition {s : State} (h : s.NextReaches (s.n - 20)) :
    exec .sequencePosition s = .next { s.counted.sequenceWork with zones := s.zonesFired } := by
  rw [exec_row_of_reaches (by simp) h, State.boundary_sequence h]

/-- Where no JOINING ends, the work is the executor's. -/
theorem State.sequenceWork_of_not_joining {s : State} (h : ¬ (s.sup.station = .joining ∧ s.sup.joiningCount = 2)) :
    s.sequenceWork = s.executorSequence := if_neg h

/-- The first step does not read the timer. -/
theorem State.counted_applyShadow (s : State) : s.counted.applyShadow = { s.applyShadow with timer := s.timer.counted } := by
  unfold State.applyShadow
  have current : s.counted.exec.current = s.exec.current := rfl
  rw [current]
  split <;> rfl

@[simp] theorem State.applyShadow_sup (s : State) : s.applyShadow.sup = s.sup := by
  unfold State.applyShadow
  split <;> rfl

/-- The first step reaches current segment and shadow of the executor. -/
theorem State.applyShadow_exec (s : State) : ∃ c, s.applyShadow.exec = { s.exec with current := c, shadow := AmendFields.absent }
    ∧ (c = none ↔ s.exec.current = none) := by
  unfold State.applyShadow
  split
  · rename_i current
    exact ⟨none, by rw [← current]; rfl, by simp [current]⟩
  · rename_i c current
    exact ⟨_, rfl, by simp [current]⟩

theorem State.takeUrgent_of_none {s : State} (urgent : s.exec.urgent = none) : s.takeUrgent = s := by
  simp only [State.takeUrgent, urgent]

/-- Without an urgent command the third step judges what the first one left. -/
theorem State.executorSequence_of_none {s : State} (urgent : s.exec.urgent = none) :
    s.executorSequence = s.applyShadow.judgeSegment := by
  obtain ⟨c, exec, -⟩ := s.applyShadow_exec
  exact congrArg State.judgeSegment (State.takeUrgent_of_none (by rw [exec]; exact urgent))

/-- Without an urgent command and a JOINING to end, the row amends the current segment and judges what is left. -/
theorem State.sequenceWork_of_none {s : State} (urgent : s.exec.urgent = none)
    (h : ¬ (s.sup.station = .joining ∧ s.sup.joiningCount = 2)) :
    s.counted.sequenceWork = ({ s.applyShadow with timer := s.timer.counted } : State).judgeSegment := by
  rw [State.sequenceWork_of_not_joining (s := s.counted) h, State.executorSequence_of_none (s := s.counted) urgent,
    s.counted_applyShadow]

theorem State.applyShadow_of_none {s : State} (current : s.exec.current = none) :
    s.applyShadow = { s with exec := { s.exec with shadow := ⟨none, none, none, none, none⟩ } } := by
  simp only [State.applyShadow, current]
  rfl

/-! ### The head that becomes current (R156) -/

/-- Settles O33: the third step finds an IDLE station without a segment, and starts the head. -/
theorem sequencePositionStartsTheHead : Obligations.SequencePositionStartsTheHead := by
  intro s g rest reaches idle urgent current queue
  have same := s.counted.sequenceWork_same
  refine ⟨_, exec_sequencePosition reaches, same.timer, same.bank, same.share, same.scanner, rfl, ?_⟩
  rw [State.sequenceWork_of_none urgent (by simp [idle]), State.applyShadow_of_none current]
  obtain ⟨sup, exec, host, parts⟩ := ((State.judgesSegment { s with
    timer := s.timer.counted
    exec := { s.exec with shadow := ⟨none, none, none, none, none⟩ } }).2 current).1 g rest idle queue
  refine ⟨sup, exec, parts, host.trans ?_⟩
  dsimp only
  split <;> simp

/-! ### The segment that ends (R149, R154, R155) -/

/-- Settles O35: the third step judges the segment that the first one has amended. -/
theorem sequencePositionEndsTheSegment : Obligations.SequencePositionEndsTheSegment := by
  intro s c reaches urgent notJoining current q
  have same := s.counted.sequenceWork_same
  refine ⟨_, exec_sequencePosition reaches, same.timer, same.bank, same.share, same.scanner, rfl, ?_⟩
  rw [State.sequenceWork_of_none urgent notJoining]
  obtain ⟨done, skipped, -⟩ := (State.judgesSegment { q with timer := s.timer.counted }).1 c current
  refine ⟨done, skipped, fun notDone notSkipped => ?_⟩
  rw [State.judgeSegment_of_stays (w := { q with timer := s.timer.counted }) current notDone notSkipped]

end Sys2Proof.Machine
end

section
/-! PROOFS. The second step of the sequence position by the urgent command's kind, the end of JOINING, and the statement about both
(R148 to R151, R162). -/

namespace Sys2Proof.Machine

/-! ### The urgent command that is taken or ignored (R148 to R151) -/

theorem State.anyTrip_iff (s : State) : s.anyTrip = true ↔ ∃ z, (s.zones.zones.get z).tripped = true := by
  simp [State.anyTrip]

/-- RESUME's work on a stalled loader: it rests, its dwell total at 0 (R137). -/
def Loader.awakened (l : Loader) : Loader :=
  if l.state = .stalled then { l with state := .atRest, dwellTotal := 0 } else l

theorem Loader.awakened_not_stalled (l : Loader) : l.awakened.state ≠ .stalled := by
  unfold Loader.awakened
  split
  · simp
  · assumption

theorem State.resume_eq (s : State) : s.resume = { s with
    sup := { s.sup with station := if s.exec.current = none then .idle else .running }
    loader := s.loader.awakened.removeCause s.gas.established .hold } := by
  have station : (if s.exec.current.isSome then StationState.running else .idle)
      = if s.exec.current = none then .idle else .running := by
    cases s.exec.current <;> rfl
  unfold State.resume Loader.awakened
  rw [station]
  by_cases stalled : s.loader.state = .stalled
  · rw [if_pos stalled]
    exact congrArg (fun u : State => u.removeCause .hold) (if_pos stalled)
  · rw [if_neg stalled]
    exact congrArg (fun u : State => u.removeCause .hold) (if_neg stalled)

section
variable {s : State} {e : Bool} (curtain : s.gas.established = e)

include curtain in
theorem State.takeUrgent_hold (urgent : s.exec.urgent = some .hold) (free : s.sup.station = .running ∨ s.sup.station = .idle) :
    s.takeUrgent = ({ s with
      sup := { s.sup with station := .held }
      loader := s.loader.addCause e .hold } : State).finishUrgent .taken := by
  subst curtain
  simp only [State.takeUrgent, urgent]
  exact if_pos free

theorem State.takeUrgent_hold_ignored (urgent : s.exec.urgent = some .hold)
    (bound : ¬ (s.sup.station = .running ∨ s.sup.station = .idle)) : s.takeUrgent = s.finishUrgent .ignored := by
  simp only [State.takeUrgent, urgent]
  exact if_neg bound

include curtain in
theorem State.takeUrgent_resume {station : StationState} (urgent : s.exec.urgent = some .resume)
    (free : s.sup.station = .held ∧ s.anyTrip = false ∧ s.sup.haltAsserted = false)
    (moves : station = if s.exec.current = none then .idle else .running) :
    s.takeUrgent = ({ s with
      sup := { s.sup with station := station }
      loader := s.loader.awakened.removeCause e .hold } : State).finishUrgent .taken := by
  subst curtain moves
  simp only [State.takeUrgent, urgent]
  rw [← s.resume_eq]
  exact if_pos free

theorem State.takeUrgent_resume_ignored (urgent : s.exec.urgent = some .resume)
    (bound : ¬ (s.sup.station = .held ∧ s.anyTrip = false ∧ s.sup.haltAsserted = false)) :
    s.takeUrgent = s.finishUrgent .ignored := by
  simp only [State.takeUrgent, urgent]
  exact if_neg bound

include curtain in
theorem State.takeUrgent_skip {c : CurrentSegment} (urgent : s.exec.urgent = some .skip) (current : s.exec.current = some c)
    (free : s.sup.station = .running ∨ s.sup.station = .held) :
    s.takeUrgent = ({ s with
      exec := { s.exec with current := some { c with skipPending := true } }
      loader := s.loader.addCause e .skip } : State).finishUrgent .taken := by
  subst curtain
  simp only [State.takeUrgent, urgent, State.takeSkip, current]
  exact if_pos free

theorem State.takeUrgent_skip_ignored (urgent : s.exec.urgent = some .skip)
    (bound : s.exec.current = none ∨ ¬ (s.sup.station = .running ∨ s.sup.station = .held)) :
    s.takeUrgent = s.finishUrgent .ignored := by
  simp only [State.takeUrgent, urgent, State.takeSkip]
  split
  · rename_i c current
    exact if_neg (bound.resolve_left (by simp [current]))
  · rfl

theorem State.takeUrgent_flush (urgent : s.exec.urgent = some .flush) :
    s.takeUrgent = ({ s with exec := { s.exec with queue := [] } } : State).finishUrgent .taken := by
  simp only [State.takeUrgent, urgent]
  rfl

/-- Whatever its kind, the command leaves the slot empty, with a result (R148). -/
theorem State.takeUrgent_finishes {s : State} {k : UrgentKind} (urgent : s.exec.urgent = some k) :
    s.takeUrgent.exec.urgent = none ∧ s.takeUrgent.exec.lastKind = s.exec.lastKind := by
  cases k with
  | skip =>
    by_cases bound : s.exec.current = none ∨ ¬ (s.sup.station = .running ∨ s.sup.station = .held)
    · rw [State.takeUrgent_skip_ignored urgent bound]
      exact ⟨rfl, rfl⟩
    · obtain ⟨segment, free⟩ := not_or.1 bound
      obtain ⟨c, current⟩ := Option.ne_none_iff_exists'.1 segment
      rw [State.takeUrgent_skip rfl urgent current (not_not.1 free)]
      exact ⟨rfl, rfl⟩
  | hold =>
    by_cases free : s.sup.station = .running ∨ s.sup.station = .idle
    · rw [State.takeUrgent_hold rfl urgent free]
      exact ⟨rfl, rfl⟩
    · rw [State.takeUrgent_hold_ignored urgent free]
      exact ⟨rfl, rfl⟩
  | resume =>
    by_cases free : s.sup.station = .held ∧ s.anyTrip = false ∧ s.sup.haltAsserted = false
    · rw [State.takeUrgent_resume rfl urgent free rfl]
      exact ⟨rfl, rfl⟩
    · rw [State.takeUrgent_resume_ignored urgent free]
      exact ⟨rfl, rfl⟩
  | flush =>
    rw [State.takeUrgent_flush urgent]
    exact ⟨rfl, rfl⟩

end

/-! ### The third step after the command -/

/-- The third step leaves the urgent slot and the last urgent command's figures. -/
theorem State.judgeSegment_urgent (w : State) : w.judgeSegment.exec.urgent = w.exec.urgent
    ∧ w.judgeSegment.exec.lastKind = w.exec.lastKind ∧ w.judgeSegment.exec.lastResult = w.exec.lastResult := by
  obtain ⟨queue, current, outcomes, exec⟩ := w.judgeSegment_exec
  rw [exec]
  exact ⟨rfl, rfl, rfl⟩

theorem State.judged_after {u w : State} {r : UrgentResult} (h : u = w.finishUrgent r) :
    u.judgeSegment.exec.lastResult = r ∧ (w.finishUrgent r).JudgesSegment u.judgeSegment := by
  subst h
  exact ⟨(State.judgeSegment_urgent _).2.2, State.judgesSegment _⟩

/-- An empty queue stays empty: no step of the sequence position adds a record. -/
theorem State.judgeSegment_empty {w : State} (queue : w.exec.queue = []) : w.judgeSegment.exec.queue = [] :=
  List.suffix_nil.1 (queue ▸ w.judgeSegment_consumes.queue)

theorem Loader.addCause_has (e : Bool) (k : StopCause) (l : Loader) : (l.addCause e k).causes.has k = true := by
  rw [Loader.addCause_causes]
  split
  · assumption
  · simp

section
variable {s : State} {e : Bool} (curtain : s.gas.established = e)
include curtain

/-- HOLD leaves a HELD station, with HOLD among the stop causes (R132, R150). -/
theorem State.judgeSegment_after_hold (urgent : s.exec.urgent = some .hold)
    (free : s.sup.station = .running ∨ s.sup.station = .idle) :
    s.takeUrgent.judgeSegment.sup.station = .held ∧ s.takeUrgent.judgeSegment.loader.causes.hold = true := by
  rw [State.takeUrgent_hold curtain urgent free]
  constructor
  · rw [State.judgeSegment_of_held rfl]
    rfl
  · rw [State.judgeSegment_hold]
    exact s.loader.addCause_has e .hold

/-- RESUME leaves a RUNNING or an IDLE station, without HOLD among the stop causes, and no stall (R137, R150). -/
theorem State.judgeSegment_after_resume (urgent : s.exec.urgent = some .resume)
    (free : s.sup.station = .held ∧ s.anyTrip = false ∧ s.sup.haltAsserted = false) :
    (s.takeUrgent.judgeSegment.sup.station = .running ∨ s.takeUrgent.judgeSegment.sup.station = .idle)
      ∧ s.takeUrgent.judgeSegment.loader.causes.hold = false ∧ s.takeUrgent.judgeSegment.loader.state ≠ .stalled := by
  rw [State.takeUrgent_resume curtain urgent free rfl]
  refine ⟨State.judgeSegment_runs ?_, ?_,
    State.judgeSegment_not_stalled (Loader.removeCause_not_stalled e .hold s.loader.awakened_not_stalled)⟩
  · show (if s.exec.current = none then StationState.idle else .running) = .running
      ∨ (if s.exec.current = none then StationState.idle else .running) = .idle
    split
    · exact .inr rfl
    · exact .inl rfl
  · rw [State.judgeSegment_hold]
    exact congrArg Prod.fst (Loader.removeCause_station e .hold s.loader.awakened)

/-- SKIP ends the segment at once without a boat of it in motion, and waits for the boat's stop otherwise (R149). -/
theorem State.judgeSegment_after_skip {c : CurrentSegment} (urgent : s.exec.urgent = some .skip)
    (current : s.exec.current = some c) (free : s.sup.station = .running ∨ s.sup.station = .held) :
    let pending : CurrentSegment := { c with skipPending := true }
    let w : State := { s with
      exec := { s.exec with current := some pending, urgent := none, lastResult := .taken }
      loader := s.loader.addCause e .skip }
    s.takeUrgent.judgeSegment.exec.lastResult = .taken
      ∧ (c.record.boat = none ∨ w.loader.inMotion = false → w.EndsSegment pending .skipped s.takeUrgent.judgeSegment)
      ∧ (c.record.boat ≠ none → w.loader.inMotion = true → s.takeUrgent.judgeSegment = w) := by
  intro pending w
  have taken : s.takeUrgent = w := State.takeUrgent_skip curtain urgent current free
  rw [taken]
  refine ⟨w.judgeSegment_urgent.2.2, fun stopped => ?_, fun boat moves => ?_⟩
  · exact (w.judgesSegment.1 pending rfl).2.1 ⟨rfl, free.imp_right .inl, stopped⟩
  · refine State.judgeSegment_of_stays (c := pending) rfl (fun ⟨noSkip, _⟩ => nomatch noSkip) fun ⟨_, _, stopped⟩ => ?_
    exact stopped.elim boat (by simp [moves])

end

/-! ### The end of JOINING (R162) -/

/-- Where JOINING ends, its end comes before the executor's work or after it (log entry 4). -/
theorem State.sequenceWork_of_joining {s : State} (h : s.sup.station = .joining ∧ s.sup.joiningCount = 2) :
    ∃ k, s.sequenceWork = s.endJoining.executorSequence.setFreeIndex k
      ∨ s.sequenceWork = s.executorSequence.endJoining.setFreeIndex k := by
  refine ⟨s.freeIndex + 1, ?_⟩
  unfold State.sequenceWork
  rw [if_pos h]
  dsimp only
  split
  · exact .inl rfl
  · split
    · exact .inl rfl
    · exact .inr rfl

section
variable {s : State} (joining : s.sup.station = .joining ∧ s.sup.joiningCount = 2) (urgent : s.exec.urgent = none)
  (current : s.exec.current = none)
include joining urgent current

/-- A JOINING station without a segment and without an urgent command drops its shadow, and judges nothing. -/
theorem State.executorSequence_of_joining :
    s.executorSequence = { s with exec := { s.exec with shadow := ⟨none, none, none, none, none⟩ } } := by
  rw [State.executorSequence_of_none urgent, State.applyShadow_of_none current]
  exact State.judgeSegment_of_no_head current (.inl (by simp [joining.1]))

/-- Without a trip the station goes to IDLE, before the third step's judgement or after it (log entry 4). -/
theorem State.sequenceWork_joins_idle (untripped : s.anyTrip = false) :
    let idle : State := { s with
      sup := { s.sup with station := .idle }
      exec := { s.exec with shadow := ⟨none, none, none, none, none⟩ } }
    ∃ k, s.sequenceWork = idle.judgeSegment.setFreeIndex k ∨ s.sequenceWork = idle.setFreeIndex k := by
  have ends : ∀ u : State, u.sup = s.sup → u.anyTrip = s.anyTrip → u.endJoining = u.setStation .idle := fun u sup trip => by
    unfold State.endJoining
    rw [if_pos (sup ▸ joining), if_neg (by simp [trip, untripped])]
  obtain ⟨k, order⟩ := State.sequenceWork_of_joining joining
  refine ⟨k, order.imp (fun first => first.trans ?_) fun last => last.trans ?_⟩
  · rw [ends s rfl rfl, State.executorSequence_of_none (s := s.setStation .idle) urgent,
      State.applyShadow_of_none (s := s.setStation .idle) current]
    rfl
  · rw [State.executorSequence_of_joining joining urgent current]
    exact congrArg (State.setFreeIndex · k) (ends _ rfl rfl)

/-- Under a trip it goes to HELD in either order, and nothing is judged. -/
theorem State.sequenceWork_joins_held (tripped : s.anyTrip = true) : ∃ k, s.sequenceWork = ({ s with
    sup := { s.sup with station := .held }
    exec := { s.exec with shadow := ⟨none, none, none, none, none⟩ }
    loader := s.loader.addCause s.gas.established .hold } : State).setFreeIndex k := by
  have ends : ∀ u : State, u.sup = s.sup → u.anyTrip = s.anyTrip → u.endJoining = u.enterHeld := fun u sup trip => by
    unfold State.endJoining
    rw [if_pos (sup ▸ joining), if_pos (trip.trans tripped)]
  obtain ⟨k, first | last⟩ := State.sequenceWork_of_joining joining
  · refine ⟨k, first.trans (congrArg (State.setFreeIndex · k) ?_)⟩
    rw [ends s rfl rfl, State.executorSequence_of_none (s := s.enterHeld) urgent,
      State.applyShadow_of_none (s := s.enterHeld) current]
    exact State.judgeSegment_of_no_head current (.inl (by simp [State.enterHeld, State.setStation]))
  · refine ⟨k, last.trans (congrArg (State.setFreeIndex · k) ?_)⟩
    rw [State.executorSequence_of_joining joining urgent current]
    exact ends _ rfl rfl

end

/-! ### The statement -/

/-- What the first step leaves of urgent slot, station, curtain and trips, and whether a segment is current. -/
theorem State.applyShadow_keeps (s : State) : s.applyShadow.exec.urgent = s.exec.urgent
    ∧ s.applyShadow.exec.lastKind = s.exec.lastKind ∧ (s.applyShadow.exec.current = none ↔ s.exec.current = none)
    ∧ (s.applyShadow.anyTrip = true ↔ ∃ z, (s.zones.zones.get z).tripped = true) := by
  obtain ⟨c, exec, segment⟩ := s.applyShadow_exec
  rw [State.anyTrip_iff, s.applyShadow_same.zones, exec]
  exact ⟨rfl, rfl, segment, Iff.rfl⟩

/-- Where no JOINING ends, the row's third step follows an urgent command that is finished. -/
theorem exec_sequencePosition_urgent {s : State} {k : UrgentKind} (reaches : s.NextReaches (s.n - 20))
    (notJoining : ¬ (s.sup.station = .joining ∧ s.sup.joiningCount = 2)) (urgent : s.exec.urgent = some k) :
    let t := (s.applyShadow.setTimer s.timer.counted).takeUrgent.judgeSegment
    exec .sequencePosition s = .next { t with zones := s.zonesFired } ∧ s.counted.SameElsewhere t
      ∧ t.exec.urgent = none ∧ t.exec.lastKind = s.exec.lastKind := by
  intro t
  obtain ⟨slot, kind, -⟩ := s.applyShadow_keeps
  obtain ⟨empty, kept⟩ := State.takeUrgent_finishes (s := s.applyShadow.setTimer s.timer.counted) (slot.trans urgent)
  obtain ⟨slotLeft, kindLeft, -⟩ := (s.applyShadow.setTimer s.timer.counted).takeUrgent.judgeSegment_urgent
  have work : s.counted.sequenceWork = t := by
    rw [State.sequenceWork_of_not_joining (s := s.counted) notJoining, State.executorSequence, s.counted_applyShadow]
    rfl
  rw [exec_sequencePosition reaches, work]
  exact ⟨rfl, work ▸ s.counted.sequenceWork_same, slotLeft.trans empty, (kindLeft.trans kept).trans kind⟩

/-- Settles O36: the second step by the command's kind with the third step's judgement, and JOINING's end in either order. -/
theorem urgentCommandsAndTheEndOfJoining : Obligations.UrgentCommandsAndTheEndOfJoining := by
  refine ⟨fun s k reaches notJoining urgent => ?_, fun s reaches station count urgent current => ?_⟩
  · intro trip q e
    obtain ⟨row, same, empty, kind⟩ := exec_sequencePosition_urgent reaches notJoining urgent
    obtain ⟨slot, -, segment, tripped⟩ := s.applyShadow_keeps
    have slot : q.exec.urgent = some k := slot.trans urgent
    have sup : q.sup = s.sup := s.applyShadow_sup
    have curtain : q.gas.established = e := s.applyShadow_same.established
    let p : State := q.setTimer s.timer.counted
    refine ⟨_, row, empty, kind, same.timer, same.bank, same.share, same.scanner, rfl, ?_, ?_, ?_, ?_⟩
    all_goals rintro rfl
    · refine ⟨fun free => ?_, fun notRunning notIdle => ?_⟩
      · have free : q.sup.station = .running ∨ q.sup.station = .idle := sup ▸ free
        have judged := State.judged_after (State.takeUrgent_hold (s := p) curtain slot free)
        exact ⟨judged, State.judgeSegment_after_hold (s := p) curtain slot free⟩
      · have bound : ¬ (q.sup.station = .running ∨ q.sup.station = .idle) := sup ▸ not_or_intro notRunning notIdle
        have judged := State.judged_after (State.takeUrgent_hold_ignored (s := p) slot bound)
        exact judged
    · refine ⟨fun held untripped released => ?_, fun bound => ?_⟩
      · have free : q.sup.station = .held ∧ q.anyTrip = false ∧ q.sup.haltAsserted = false :=
          ⟨sup ▸ held, Bool.eq_false_iff.2 fun trips => untripped (tripped.1 trips), sup ▸ released⟩
        have judged := State.judged_after (State.takeUrgent_resume (s := p) curtain slot free (if_congr segment rfl rfl).symm)
        exact ⟨judged, State.judgeSegment_after_resume (s := p) curtain slot free⟩
      · have bound : ¬ (q.sup.station = .held ∧ q.anyTrip = false ∧ q.sup.haltAsserted = false) := by
          rw [sup]
          rintro ⟨held, untripped, released⟩
          rcases bound with notHeld | trips | asserted
          · exact notHeld held
          · simp [q, tripped.2 trips] at untripped
          · simp [asserted] at released
        have judged := State.judged_after (State.takeUrgent_resume_ignored (s := p) slot bound)
        exact judged
    · refine ⟨fun c current free => ?_, fun bound => ?_⟩
      · have free : q.sup.station = .running ∨ q.sup.station = .held := sup ▸ free
        obtain ⟨result, ends, waits⟩ := State.judgeSegment_after_skip (s := p) curtain slot current free
        refine ⟨result, ends, fun boat moves => ⟨q.loader.addCause_has e .skip, ?_⟩⟩
        rw [waits boat moves]
        rfl
      · have bound : q.exec.current = none ∨ ¬ (q.sup.station = .running ∨ q.sup.station = .held) := by
          rw [sup, not_or, segment]
          exact bound
        have judged := State.judged_after (State.takeUrgent_skip_ignored (s := p) slot bound)
        exact judged
    · have taken := State.takeUrgent_flush (s := p) slot
      have judged := State.judged_after taken
      exact ⟨judged, State.judgeSegment_empty (by rw [taken]; rfl)⟩
  · have joining : s.counted.sup.station = .joining ∧ s.counted.sup.joiningCount = 2 := ⟨station, count⟩
    have same := s.counted.sequenceWork_same
    refine ⟨_, exec_sequencePosition reaches, same.timer, same.bank, same.share, same.scanner, rfl, ?_, ?_⟩
    · intro idle untripped
      have untripped : s.counted.anyTrip = false := Bool.eq_false_iff.2 fun trips => by
        obtain ⟨z, trip⟩ := s.counted.anyTrip_iff.1 trips
        nomatch (untripped z).symm.trans trip
      obtain ⟨k, work | work⟩ := State.sequenceWork_joins_idle joining urgent current untripped
      · have judged := State.judgesSegment { idle with timer := s.timer.counted }
        rw [work]
        refine ⟨.inl judged, fun queue => ?_⟩
        obtain ⟨sup, -, -, -, -, loader⟩ := (judged.2 current).2 (.inr queue)
        exact ⟨sup, loader⟩
      · rw [work]
        exact ⟨.inr ⟨rfl, rfl, rfl, rfl, rfl, rfl⟩, fun _ => ⟨rfl, rfl⟩⟩
    · intro held tripped
      obtain ⟨k, work⟩ := State.sequenceWork_joins_held joining urgent current (s.counted.anyTrip_iff.2 tripped)
      rw [work]
      exact ⟨⟨rfl, rfl, rfl, rfl, rfl, rfl⟩, s.loader.addCause_hold_causes s.gas.established⟩

end Sys2Proof.Machine
end

section
/-! PROOFS. The fields of a segment record and of the amend fields in their bytes (R177), and the statements about APPEND, AMEND, URGENT
and SET_LOW_MARK (R142 to R148). -/

namespace Sys2Proof.Machine

/-! ### Bytes (R177) -/

/-- A flag list, from bit k on: its first flag at bit k and the others above it. -/
theorem flagBits_from (k : Nat) (b : Bool) (rest : List Bool) :
    2 ^ k * flagBits (b :: rest) = (if b then 2 ^ k else 0) + 2 ^ (k + 1) * flagBits rest := by
  simp only [flagBits, Nat.mul_add, mul_ite, mul_one, mul_zero, pow_succ, mul_assoc]

theorem flagBits_five (a b c d e : Bool) : flagBits [a, b, c, d, e] = (if a then 2 ^ 0 else 0) + (if b then 2 ^ 1 else 0)
    + (if c then 2 ^ 2 else 0) + (if d then 2 ^ 3 else 0) + (if e then 2 ^ 4 else 0) := by
  refine (one_mul _).symm.trans ((congrArg (· * _) (pow_zero 2).symm).trans ?_)
  simp only [flagBits_from, show flagBits [] = 0 from rfl, mul_zero, add_zero, ← add_assoc]

theorem flagBits_eight (a b c d e f g h : Bool) : flagBits [a, b, c, d, e, f, g, h] = (if a then 2 ^ 0 else 0)
    + (if b then 2 ^ 1 else 0) + (if c then 2 ^ 2 else 0) + (if d then 2 ^ 3 else 0) + (if e then 2 ^ 4 else 0)
    + (if f then 2 ^ 5 else 0) + (if g then 2 ^ 6 else 0) + (if h then 2 ^ 7 else 0) := by
  refine (one_mul _).symm.trans ((congrArg (· * _) (pow_zero 2).symm).trans ?_)
  simp only [flagBits_from, show flagBits [] = 0 from rfl, mul_zero, add_zero, ← add_assoc]

theorem byteAt_lt (b : List Byte) (n : Nat) : byteAt b n < 256 := (b.getD (n - 1) 0).isLt

theorem wordAt_le (b : List Byte) (n : Nat) : wordAt b n ≤ 65535 := by
  have high := byteAt_lt b n
  have low := byteAt_lt b (n + 1)
  unfold wordAt
  omega

theorem Segment.targets_get (g : Segment) (z : ZoneId) : g.targets.get z = g.thermal.bind fun t => t.targets.get z := by
  unfold Segment.targets
  cases g.thermal with
  | none => exact PerZone.get_all _ z
  | some t => rfl

theorem clampNat_zero_eq (hi : Nat) : clampNat 0 hi = fun n => min n hi := funext (clampNat_zero hi)

/-! ### APPEND (R142) -/

/-- The clamping of a record, whose minimum duration fits its two bytes. -/
theorem Segment.clamp_eq (c : Store) {g : Segment} (short : g.minDuration ≤ 65535) : g.clamp c = { g with
    thermal := g.thermal.map fun t =>
      ⟨PerZone.ofFn fun z => (t.targets.get z).map fun v => min v (c.zones.get z).maxTemp, min t.rate 1000, min t.guardBand 500⟩
    gas := g.gas.map fun p => ⟨min p.flow 200, max 1 (min p.litres 9999)⟩
    boat := g.boat.map fun b => ⟨min b.target c.loader.stroke, clampNat 1 c.loader.maxSpeed b.speed, min b.dwellBand 500,
      min b.maxDwell 3600⟩ } := by
  simp only [Segment.clamp, clampNat_zero_eq, clampNat_eq _ (show 1 ≤ 9999 by decide), Nat.min_eq_left short]

theorem exec_append_of_room {s : State} (taken : s.Taken 0x20) (configured : s.sup.station ≠ .unconfigured)
    (room : s.exec.queue.length < 16) {g : Segment} (clamped : (readSegment s.host.buffer 2).clamp s.store = g) :
    exec .append s = .next (({ s with exec := s.exec.append g } : State).answered 0x20
      (clampResult (readSegment s.host.buffer 2) g) (two s.exec.nextId ++ g.bytes)) := by
  subst clamped
  refine congrArg Host.Outcome.next ((State.command_of_taken _ taken).trans ?_)
  exact (if_neg configured).trans ((if_neg (not_le.2 room)).trans (State.reply_of_host taken.2.2 _ _ rfl))

/-- Settles O13: the layout field by field, and the command by station state and queue length. -/
theorem appendAddsTheClampedRecord : Obligations.AppendAddsTheClampedRecord := by
  refine ⟨fun b => rfl, fun g => ?_, fun s taken configured room => ?_, fun s taken unconfigured => ?_,
    fun s taken configured full => ?_⟩
  · intro bit targeted target
    have flags := flagBits_eight g.thermal.isSome g.gas.isSome g.boat.isSome (targeted .z1).isSome (targeted .z2).isSome
      (targeted .z3).isSome (targeted .z4).isSome (targeted .z5).isSome
    simp only [Segment.bytes, ZoneId.list, List.map_cons, List.map_nil, List.cons_append, List.nil_append, Segment.targets_get,
      List.flatten_cons, List.flatten_nil, List.append_nil, ← List.append_assoc]
    rw [flags]
    rfl
  · intro given stored
    exact exec_append_of_room taken configured room (Segment.clamp_eq s.store (wordAt_le s.host.buffer 25))
  · refine congrArg Host.Outcome.next ((State.command_of_taken _ taken).trans ?_)
    exact (if_pos unconfigured).trans (State.reply_endTransaction taken.2.2 _ _)
  · refine congrArg Host.Outcome.next ((State.command_of_taken _ taken).trans ?_)
    exact (if_neg configured).trans ((if_pos full).trans (State.reply_endTransaction taken.2.2 _ _))

/-! ### AMEND and the amend shadow (R146, R147) -/

theorem AmendFields.clamp_eq (maxSpeed : Nat) (a : AmendFields) : a.clamp maxSpeed =
    { rate := a.rate.map fun v => min v 1000
      guardBand := a.guardBand.map fun v => min v 500
      purgeFlow := a.purgeFlow.map fun v => min v 200
      boatSpeed := a.boatSpeed.map (clampNat 1 maxSpeed)
      dwellBand := a.dwellBand.map fun v => min v 500 } := by
  simp only [AmendFields.clamp, clampNat_zero_eq]

/-- Each field that an AMEND carries replaces the shadow's. -/
theorem AmendFields.merge_eq (shadow a : AmendFields) : shadow.merge a =
    { rate := a.rate.or shadow.rate
      guardBand := a.guardBand.or shadow.guardBand
      purgeFlow := a.purgeFlow.or shadow.purgeFlow
      boatSpeed := a.boatSpeed.or shadow.boatSpeed
      dwellBand := a.dwellBand.or shadow.dwellBand } := by
  simp only [AmendFields.merge, Option.orElse_eq_orElse, Option.orElse_eq_or]

theorem exec_amend_of_current {s : State} {c : CurrentSegment} (taken : s.Taken 0x21) (current : s.exec.current = some c)
    {a : AmendFields} (clamped : (readAmend s.host.buffer).clamp s.store.loader.maxSpeed = a) :
    exec .amend s = .next (({ s with exec := { s.exec with shadow := s.exec.shadow.merge a } } : State).answered 0x21
      (clampResult (readAmend s.host.buffer) a) (s.exec.shadow.merge a).bytes) := by
  subst clamped
  refine congrArg Host.Outcome.next ((State.command_of_taken _ taken).trans ?_)
  simp only [State.endTransaction_exec, current]
  exact State.reply_of_host taken.2.2 _ _ rfl

theorem exec_amend_of_none {s : State} (taken : s.Taken 0x21) (current : s.exec.current = none) :
    exec .amend s = .next (s.answered 0x21 .badState []) := by
  refine congrArg Host.Outcome.next ((State.command_of_taken _ taken).trans ?_)
  simp only [State.endTransaction_exec, current]
  exact State.reply_endTransaction taken.2.2 _ _

section
variable (a : AmendFields) (g : Segment)

/-- A record takes the fields whose part it has. -/
theorem Segment.amend_restrict : g.amend (a.restrict g) = { g with
    thermal := g.thermal.map fun h => { h with rate := a.rate.getD h.rate, guardBand := a.guardBand.getD h.guardBand }
    gas := g.gas.map fun p => { p with flow := a.purgeFlow.getD p.flow }
    boat := g.boat.map fun b => { b with speed := a.boatSpeed.getD b.speed, dwellBand := a.dwellBand.getD b.dwellBand } } := by
  obtain ⟨id, thermal, gas, boat, minDuration⟩ := g
  cases thermal <;> cases gas <;> cases boat <;> rfl

theorem Ramp.amend_restrict (r : Ramp) : r.amend (a.restrict g) =
    if r.partCurrent = true ∧ g.thermal.isSome = true then { r with
      rate := (a.rate.map fun v => min v 1000).getD r.rate
      guardBand := (a.guardBand.map fun v => min v 500).getD r.guardBand }
    else r := by
  simp only [Ramp.amend, AmendFields.restrict, clampNat_zero_eq]
  cases g.thermal <;> simp

theorem Gas.amend_restrict (u : Gas) : u.amend (a.restrict g) =
    if u.part.current = true ∧ g.gas.isSome = true then { u with
      part := { u.part with flow := (a.purgeFlow.map fun v => min v 200).getD u.part.flow } }
    else u := by
  simp only [Gas.amend, AmendFields.restrict, clampNat_zero_eq]
  cases g.gas <;> simp

theorem Loader.amend_restrict (maxSpeed : Nat) (l : Loader) : l.amend maxSpeed (a.restrict g) =
    if l.part.current = true ∧ g.boat.isSome = true then { l with
      part := { l.part with
        speed := (a.boatSpeed.map (clampNat 1 maxSpeed)).getD l.part.speed
        dwellBand := (a.dwellBand.map fun v => min v 500).getD l.part.dwellBand } }
    else l := by
  simp only [Loader.amend, AmendFields.restrict, clampNat_zero_eq]
  cases g.boat <;> simp

end

theorem State.applyShadow_of_some {s : State} {c : CurrentSegment} (current : s.exec.current = some c) :
    s.applyShadow = { s with
      exec := { s.exec with
        shadow := ⟨none, none, none, none, none⟩
        current := some { c with record := c.record.amend (s.exec.shadow.restrict c.record) } }
      ramp := s.ramp.amend (s.exec.shadow.restrict c.record)
      gas := s.gas.amend (s.exec.shadow.restrict c.record)
      loader := s.loader.amend s.store.loader.maxSpeed (s.exec.shadow.restrict c.record) } := by
  simp only [State.applyShadow, current]
  rfl

/-- No urgent command writes a shadow. -/
theorem State.takeUrgent_shadow (s : State) : s.takeUrgent.exec.shadow = s.exec.shadow := by
  unfold State.takeUrgent
  split
  · rfl
  · unfold State.takeSkip
    split
    · split <;> rfl
    · rfl
  · unfold State.takeHold
    split <;> rfl
  · unfold State.takeResume
    split
    · show s.resume.exec.shadow = _
      rw [State.resume_exec]
    · rfl
  · rfl

theorem State.executorSequence_shadow (s : State) : s.executorSequence.exec.shadow = ⟨none, none, none, none, none⟩ := by
  obtain ⟨queue, current, outcomes, judged⟩ := s.applyShadow.takeUrgent.judgeSegment_exec
  obtain ⟨c, first, -⟩ := s.applyShadow_exec
  unfold State.executorSequence
  rw [judged]
  exact (State.takeUrgent_shadow _).trans (congrArg Executor.shadow first)

/-- In either of its two orders, the sequence position leaves the shadow absent (R147). -/
theorem State.sequenceWork_shadow (s : State) : s.sequenceWork.exec.shadow = ⟨none, none, none, none, none⟩ := by
  by_cases joining : s.sup.station = .joining ∧ s.sup.joiningCount = 2
  · obtain ⟨k, first | last⟩ := State.sequenceWork_of_joining joining
    · rw [first]
      exact State.executorSequence_shadow _
    · rw [last]
      exact (congrArg Executor.shadow (State.endJoining_exec _)).trans s.executorSequence_shadow
  · rw [State.sequenceWork_of_not_joining joining]
    exact s.executorSequence_shadow

/-- Settles O14: the layout, the command by whether a segment is current, and the shadow's application. -/
theorem amendsReachTheShadowAndThenTheSegment : Obligations.AmendsReachTheShadowAndThenTheSegment := by
  refine ⟨fun b => rfl, fun a => ?_, fun s c taken current => ?_, fun s taken current => exec_amend_of_none taken current,
    fun s reaches => ⟨_, exec_sequencePosition reaches, s.counted.sequenceWork_shadow⟩,
    fun s current => State.applyShadow_of_none current, fun s c current => ?_⟩
  · intro bit
    unfold AmendFields.bytes
    rw [flagBits_five]
    rfl
  · intro given clamped shadow
    have merged : s.exec.shadow.merge clamped = shadow := AmendFields.merge_eq _ _
    rw [← merged]
    exact exec_amend_of_current taken current (AmendFields.clamp_eq _ _)
  · intro a g
    rw [State.applyShadow_of_some current, Segment.amend_restrict, Ramp.amend_restrict, Gas.amend_restrict, Loader.amend_restrict]

/-! ### URGENT and SET_LOW_MARK (R144, R148) -/

theorem urgentKind_code (k : UrgentKind) : urgentKind? k.code = some k := by cases k <;> rfl

section
variable {s : State} {k : UrgentKind} (taken : s.Taken 0x22) (kind : byteAt s.host.buffer 2 = k.code)
include taken kind

theorem exec_urgent_of_empty (configured : s.sup.station ≠ .unconfigured) (empty : s.exec.urgent = none) :
    exec .urgent s = .next (({ s with exec := { s.exec with
      urgent := some k, lastKind := some k, lastResult := .pending } } : State).answered 0x22 .ok []) := by
  refine congrArg Host.Outcome.next ((State.command_of_taken _ taken).trans ?_)
  simp only [State.endTransaction_buffer, kind, urgentKind_code, State.endTransaction_exec, empty]
  exact (if_neg configured).trans (State.reply_of_host taken.2.2 _ _ rfl)

theorem exec_urgent_of_filled (configured : s.sup.station ≠ .unconfigured) (filled : s.exec.urgent ≠ none) :
    exec .urgent s = .next (s.answered 0x22 .urgentBusy []) := by
  obtain ⟨before, slot⟩ := Option.ne_none_iff_exists'.1 filled
  refine congrArg Host.Outcome.next ((State.command_of_taken _ taken).trans ?_)
  simp only [State.endTransaction_buffer, kind, urgentKind_code, State.endTransaction_exec, slot]
  exact (if_neg configured).trans (State.reply_endTransaction taken.2.2 _ _)

theorem exec_urgent_of_unconfigured (unconfigured : s.sup.station = .unconfigured) :
    exec .urgent s = .next (s.answered 0x22 .badState []) := by
  refine congrArg Host.Outcome.next ((State.command_of_taken _ taken).trans ?_)
  simp only [State.endTransaction_buffer, kind, urgentKind_code]
  exact (if_pos unconfigured).trans (State.reply_endTransaction taken.2.2 _ _)

end

/-- Settles O15: URGENT by station state and slot, and the mark's clamping. -/
theorem urgentFillsTheSlotAndTheMarkIsStored : Obligations.UrgentFillsTheSlotAndTheMarkIsStored := by
  refine ⟨fun s k taken kind => ⟨exec_urgent_of_empty taken kind, exec_urgent_of_filled taken kind,
    exec_urgent_of_unconfigured taken kind⟩, fun s taken => ?_⟩
  intro m
  have result : clampResult m (clampNat 0 15 m) = if m ≤ 15 then .ok else .okClamped :=
    if_congr (by rw [clampNat_zero]; omega) rfl rfl
  rw [← result, ← clampNat_zero]
  exact congrArg Host.Outcome.next ((State.command_of_taken _ taken).trans (State.reply_of_host taken.2.2 _ _ rfl))

end Sys2Proof.Machine
end

section
/-! PROOFS. The statement about the configuration commands: the figures that each stores, clamped, and when one was clamped (R70,
R108, R121, R122, R159). -/

namespace Sys2Proof.Machine

/-! ### Given and stored figures -/

/-- A result told by a condition under which the given figures are the stored ones. -/
theorem clampResult_eq {α : Type} [DecidableEq α] {given stored : α} {p : Prop} [Decidable p] (kept : given = stored ↔ p) :
    clampResult given stored = if p then .ok else .okClamped := if_congr kept rfl rfl

theorem readBankFigures_clamp (b : List Byte) : (readBankFigures b).clamp =
    ⟨min (wordAt b 2) 4095, byteAt b 4, max 1 (min (byteAt b 5) 8), min (byteAt b 6) 1, min (byteAt b 7) 15⟩ := by
  have capacity : min (byteAt b 4) 255 = byteAt b 4 := by have := byteAt_lt b 4; omega
  simp only [BankFigures.clamp, readBankFigures, clampNat_zero, clampNat_eq _ (show 1 ≤ 8 by decide), capacity]

theorem readBankFigures_kept (b : List Byte) : readBankFigures b = (readBankFigures b).clamp ↔
    wordAt b 2 ≤ 4095 ∧ 1 ≤ byteAt b 5 ∧ byteAt b 5 ≤ 8 ∧ byteAt b 6 ≤ 1 ∧ byteAt b 7 ≤ 15 := by
  rw [readBankFigures_clamp, readBankFigures, BankFigures.mk.injEq]
  omega

theorem readZoneConfig_clamp (b : List Byte) : (readZoneConfig b).clamp =
    ⟨decide (byteAt b 3 ≠ 0), max 1 (min (byteAt b 4) 200), byteAt b 5, byteAt b 6, min (wordAt b 7) 13500,
      min (wordAt b 9) 15000, min (wordAt b 11) 30000, min (wordAt b 13) 30000, min (wordAt b 15) 300⟩ := by
  have kp : min (byteAt b 5) 255 = byteAt b 5 := by have := byteAt_lt b 5; omega
  have ki : min (byteAt b 6) 255 = byteAt b 6 := by have := byteAt_lt b 6; omega
  simp only [ZoneConfig.clamp, readZoneConfig, yesAt, clampNat_zero, clampNat_eq _ (show 1 ≤ 200 by decide), kp, ki]

theorem readZoneConfig_kept (b : List Byte) : readZoneConfig b = (readZoneConfig b).clamp ↔
    1 ≤ byteAt b 4 ∧ byteAt b 4 ≤ 200 ∧ wordAt b 7 ≤ 13500 ∧ wordAt b 9 ≤ 15000 ∧ wordAt b 11 ≤ 30000 ∧ wordAt b 13 ≤ 30000
      ∧ wordAt b 15 ≤ 300 := by
  rw [readZoneConfig_clamp, readZoneConfig, ZoneConfig.mk.injEq]
  simp only [yesAt, true_and]
  omega

/-- The curtain minimum is at most the curtain flow, and so within its own range (R108). -/
theorem readGasConfig_clamp (b : List Byte) : (readGasConfig b).clamp =
    ⟨min (byteAt b 2) 80, min (byteAt b 3) (min (byteAt b 2) 80), min (byteAt b 4) 200⟩ := by
  have minimum : min (min (byteAt b 3) 80) (min (byteAt b 2) 80) = min (byteAt b 3) (min (byteAt b 2) 80) := by omega
  simp only [GasConfig.clamp, readGasConfig, clampNat_zero, minimum]

theorem readGasConfig_kept (b : List Byte) : readGasConfig b = (readGasConfig b).clamp ↔
    byteAt b 2 ≤ 80 ∧ byteAt b 3 ≤ byteAt b 2 ∧ byteAt b 4 ≤ 200 := by
  rw [readGasConfig_clamp, readGasConfig, GasConfig.mk.injEq]
  omega

/-- The stop step's range begins at the acceleration step as stored (R121). -/
theorem readLoaderConfig_clamp (b : List Byte) : (readLoaderConfig b).clamp =
    ⟨max 1000 (min (wordAt b 2) 30000), max 1 (min (byteAt b 4) 100), max 1 (min (byteAt b 5) 20),
      max (max 1 (min (byteAt b 5) 20)) (min (byteAt b 6) 50), max 1 (min (byteAt b 7) 100)⟩ := by
  have range : max 1 (min (byteAt b 5) 20) ≤ 50 := by omega
  simp only [LoaderConfig.clamp, readLoaderConfig, clampNat_eq _ (show 1000 ≤ 30000 by decide),
    clampNat_eq _ (show 1 ≤ 100 by decide), clampNat_eq _ (show 1 ≤ 20 by decide), clampNat_eq _ range]

theorem readLoaderConfig_kept (b : List Byte) : readLoaderConfig b = (readLoaderConfig b).clamp ↔
    1000 ≤ wordAt b 2 ∧ wordAt b 2 ≤ 30000 ∧ 1 ≤ byteAt b 4 ∧ byteAt b 4 ≤ 100 ∧ 1 ≤ byteAt b 5 ∧ byteAt b 5 ≤ 20
      ∧ byteAt b 5 ≤ byteAt b 6 ∧ byteAt b 6 ≤ 50 ∧ 1 ≤ byteAt b 7 ∧ byteAt b 7 ≤ 100 := by
  rw [readLoaderConfig_clamp, readLoaderConfig, LoaderConfig.mk.injEq]
  omega

/-- An absent band has no figures (R122, R177). -/
theorem readBand_of_absent {b : List Byte} (absent : byteAt b 3 = 0) : readBand b = none := if_neg (by simp [yesAt, absent])

section
variable {b : List Byte} (present : byteAt b 3 ≠ 0)
include present

theorem readBand_of_present : readBand b = some ⟨wordAt b 4, wordAt b 6, byteAt b 8⟩ := if_pos (by simp [yesAt, present])

theorem readBand_clamp_of_present : (readBand b).map Band.clamp =
    some ⟨min (wordAt b 4) 30000, min (wordAt b 6) 30000, max 1 (min (byteAt b 8) 100)⟩ := by
  simp only [readBand_of_present present, Option.map_some, Band.clamp, clampNat_zero, clampNat_eq _ (show 1 ≤ 100 by decide)]

theorem readBand_kept_of_present : readBand b = (readBand b).map Band.clamp ↔
    wordAt b 4 ≤ 30000 ∧ wordAt b 6 ≤ 30000 ∧ 1 ≤ byteAt b 8 ∧ byteAt b 8 ≤ 100 := by
  rw [readBand_clamp_of_present present, readBand_of_present present, Option.some_inj, Band.mk.injEq]
  omega

end

/-! ### A command that is taken in UNCONFIGURED -/

/-- A configuration command that is taken in UNCONFIGURED writes the store alone, echoes it, and says whether it clamped. -/
theorem State.command_configures {s : State} {code : Byte} (taken : s.Taken code) (unconfigured : s.sup.station = .unconfigured)
    {α : Type} [DecidableEq α] {given stored : α} {p : Prop} [Decidable p] (kept : given = stored ↔ p) {c : Store}
    {echo : List Byte} {act : State → State}
    (acts : act s.endTransaction = s.endTransaction.configure (clampResult given stored) c echo) :
    s.command code act
      = ({ s with sup := { s.sup with store := c } } : State).answered code (if p then .ok else .okClamped) echo := by
  rw [State.command_of_taken _ taken, acts, State.configure_endTransaction taken.2.2, if_pos unconfigured, clampResult_eq kept]

/-- The zone that SET_ZONE's index names (R70, R171). -/
theorem exec_setZone_of_index {s : State} {z : ZoneId} (taken : s.Taken 0x11) (unconfigured : s.sup.station = .unconfigured)
    (index : byteAt s.host.buffer 2 = z.index) {stored : ZoneConfig} (clamped : (readZoneConfig s.host.buffer).clamp = stored)
    {p : Prop} [Decidable p] (kept : readZoneConfig s.host.buffer = stored ↔ p) :
    exec .setZone s = .next (({ s with sup := { s.sup with store :=
        { s.sup.store with zones := s.sup.store.zones.set z stored } } } : State).answered 0x11
      (if p then .ok else .okClamped) (one z.index ++ stored.bytes)) := by
  refine congrArg Host.Outcome.next (State.command_configures taken unconfigured kept ?_)
  rw [State.endTransaction_buffer, index, ZoneId.ofIndex_index, ← clamped]
  rfl

/-- The entry that SET_BAND's index names (R122, R171). -/
theorem exec_setBand_of_index {s : State} {i : Fin 8} (taken : s.Taken 0x14) (unconfigured : s.sup.station = .unconfigured)
    (index : byteAt s.host.buffer 2 = i.val) {stored : Option Band} (clamped : (readBand s.host.buffer).map Band.clamp = stored)
    {p : Prop} [Decidable p] (kept : readBand s.host.buffer = stored ↔ p) :
    exec .setBand s = .next (({ s with sup := { s.sup with store :=
        { s.sup.store with bands := s.sup.store.bands.set i stored } } } : State).answered 0x14
      (if p then .ok else .okClamped) (one i.val ++ yesNo stored.isSome ++ bandBytes stored)) := by
  refine congrArg Host.Outcome.next (State.command_configures taken unconfigured kept ?_)
  have named : Fin.ofNat 8 i.val = i := Fin.ext (Nat.mod_eq_of_lt i.isLt)
  rw [State.endTransaction_buffer, index, if_neg (by omega), named, ← clamped]
  rfl

/-- Settles O8: each command stores its figures clamped, and they are the ones given where each lies in its range. -/
theorem configurationCommandsStoreClampedFigures : Obligations.ConfigurationCommandsStoreClampedFigures := by
  refine ⟨⟨fun s taken unconfigured => ?_, fun s z taken unconfigured index => ?_⟩,
    ⟨fun s taken unconfigured => ?_, fun s taken unconfigured => ?_⟩,
    fun s i taken unconfigured index => ⟨fun present => ?_, fun absent => ?_⟩⟩
  · intro b stored
    have clamped : (readBankFigures b).clamp = stored := readBankFigures_clamp b
    rw [← clamped]
    exact congrArg Host.Outcome.next (State.command_configures taken unconfigured (readBankFigures_kept b) rfl)
  · intro b stored
    have clamped : (readZoneConfig b).clamp = stored := readZoneConfig_clamp b
    exact exec_setZone_of_index taken unconfigured index clamped (clamped ▸ readZoneConfig_kept b)
  · intro b stored
    have clamped : (readGasConfig b).clamp = stored := readGasConfig_clamp b
    rw [← clamped]
    exact congrArg Host.Outcome.next (State.command_configures taken unconfigured (readGasConfig_kept b) rfl)
  · intro b a stored
    have clamped : (readLoaderConfig b).clamp = stored := readLoaderConfig_clamp b
    rw [← clamped]
    exact congrArg Host.Outcome.next (State.command_configures taken unconfigured (readLoaderConfig_kept b) rfl)
  · intro stored
    have clamped : (readBand s.host.buffer).map Band.clamp = some stored := readBand_clamp_of_present present
    exact exec_setBand_of_index taken unconfigured index clamped (clamped ▸ readBand_kept_of_present present)
  · have given : readBand s.host.buffer = none := readBand_of_absent absent
    exact exec_setBand_of_index taken unconfigured index (by rw [given]; rfl) (p := True) (iff_true_intro given)

end Sys2Proof.Machine
end

section
/-! PROOFS. The statements about START: the first check that fails (R160), and every block's own start with the HALT line released or
asserted (R161, R163). -/

namespace Sys2Proof.Machine

/-! ### The checks (R160) -/

/-- In a list by rising rank, the member of lowest rank that has a property is the first that has it. -/
theorem find?_of_least {α : Type} {rank : α → Nat} {p : α → Bool} {a : α} : ∀ {l : List α},
    l.Pairwise (rank · < rank ·) → a ∈ l → p a = true → (∀ b, rank b < rank a → p b = false) → l.find? p = some a
  | b :: l, sorted, mem, holds, least => by
    obtain ⟨below, rest⟩ := List.pairwise_cons.1 sorted
    rcases List.mem_cons.1 mem with rfl | mem
    · exact List.find?_cons_of_pos holds
    · rw [List.find?_cons_of_neg (by simp [least b (below a mem)])]
      exact find?_of_least rest mem holds least

theorem ZoneId.find?_of_least {p : ZoneId → Bool} {z : ZoneId} (holds : p z = true)
    (least : ∀ w, w.index < z.index → p w = false) : ZoneId.list.find? p = some z :=
  Machine.find?_of_least (rank := ZoneId.index) (by decide) z.mem_list holds least

theorem eightNumbers_find?_of_least {p : Fin 8 → Bool} {i : Fin 8} (holds : p i = true) (least : ∀ j, j < i → p j = false) :
    eightNumbers.find? p = some i :=
  find?_of_least (rank := Fin.val) (by decide) (mem_eightNumbers i) holds least

section
variable {c : Store}

theorem Store.badSpan_iff (z : ZoneId) : c.badSpan z = true ↔
    (c.zones.get z).inUse = true ∧ (c.zones.get z).spanEnd ≤ (c.zones.get z).spanStart := by
  simp [Store.badSpan]

theorem Store.badBand_iff (i : Fin 8) : c.badBand i = true ↔ ∃ b, c.bands.get i = some b ∧ b.last ≤ b.first := by
  unfold Store.badBand
  cases c.bands.get i <;> simp

theorem Store.overlapsLower_iff (i : Fin 8) : c.overlapsLower i = true ↔ ∃ j, j < i ∧ ∃ a b,
    c.bands.get i = some a ∧ c.bands.get j = some b ∧ a.first < b.last ∧ b.first < a.last := by
  simp only [Store.overlapsLower, List.any_eq_true, mem_eightNumbers, true_and, Bool.and_eq_true, decide_eq_true_eq]
  refine exists_congr fun j => and_congr_right fun _ => ?_
  cases c.bands.get i <;> cases c.bands.get j <;> simp [Band.overlaps]

variable {own : StationNo}

theorem Store.startCheck_of_no_station (absent : c.bank.stationCount = 0) : c.startCheck own = some (1, 0) := if_pos absent

theorem Store.startCheck_of_own_above (positive : 0 < c.bank.stationCount) (above : c.bank.stationCount ≤ own.val) :
    c.startCheck own = some (2, own.val) := by
  rw [Store.startCheck, if_neg positive.ne', if_pos above]

variable (counted : own.val < c.bank.stationCount)
include counted

theorem Store.startCheck_of_few_zones (few : c.zonesInUse < 3) : c.startCheck own = some (3, c.zonesInUse) := by
  rw [Store.startCheck, if_neg (by omega), if_neg (by omega), if_pos few]

variable (enough : 3 ≤ c.zonesInUse)
include enough

/-- Past the first three checks, the others name what they find first. -/
theorem Store.startCheck_of_enough : c.startCheck own =
    ((ZoneId.list.find? c.badSpan).map fun z => (4, z.index)).or
      (((eightNumbers.find? c.badBand).map fun i => (5, i.val)).or
        ((eightNumbers.find? c.overlapsLower).map fun i => (6, i.val))) := by
  rw [Store.startCheck, if_neg (by omega), if_neg (by omega), if_neg (by omega)]
  cases ZoneId.list.find? c.badSpan with
  | some z => rfl
  | none =>
    cases eightNumbers.find? c.badBand with
    | some i => rfl
    | none => rfl

theorem Store.startCheck_of_badSpan {z : ZoneId} (bad : c.badSpan z = true)
    (least : ∀ w, w.index < z.index → c.badSpan w = false) : c.startCheck own = some (4, z.index) := by
  rw [Store.startCheck_of_enough counted enough, ZoneId.find?_of_least bad least]
  rfl

variable (spans : ∀ z, c.badSpan z = false)
include spans

theorem Store.startCheck_of_spans : c.startCheck own =
    ((eightNumbers.find? c.badBand).map fun i => (5, i.val)).or
      ((eightNumbers.find? c.overlapsLower).map fun i => (6, i.val)) := by
  have sound : ZoneId.list.find? c.badSpan = none := List.find?_eq_none.2 fun z _ => by simp [spans z]
  rw [Store.startCheck_of_enough counted enough, sound]
  rfl

theorem Store.startCheck_of_badBand {i : Fin 8} (bad : c.badBand i = true) (least : ∀ j, j < i → c.badBand j = false) :
    c.startCheck own = some (5, i.val) := by
  rw [Store.startCheck_of_spans counted enough spans, eightNumbers_find?_of_least bad least]
  rfl

variable (bands : ∀ i, c.badBand i = false)
include bands

theorem Store.startCheck_of_bands : c.startCheck own = (eightNumbers.find? c.overlapsLower).map fun i => (6, i.val) := by
  have sound : eightNumbers.find? c.badBand = none := List.find?_eq_none.2 fun i _ => by simp [bands i]
  rw [Store.startCheck_of_spans counted enough spans, sound]
  rfl

theorem Store.startCheck_of_overlap {i : Fin 8} (overlap : c.overlapsLower i = true)
    (least : ∀ j, j < i → c.overlapsLower j = false) : c.startCheck own = some (6, i.val) := by
  rw [Store.startCheck_of_bands counted enough spans bands, eightNumbers_find?_of_least overlap least]
  rfl

theorem Store.startCheck_of_sound (apart : ∀ i, c.overlapsLower i = false) : c.startCheck own = none := by
  have sound : eightNumbers.find? c.overlapsLower = none := List.find?_eq_none.2 fun i _ => by simp [apart i]
  rw [Store.startCheck_of_bands counted enough spans bands, sound]
  rfl

end

/-! ### The refusal -/

/-- START of a store that fails a check answers its code and index (R160). -/
theorem exec_start_of_failing {s : State} (taken : s.Taken 0x1F) (unconfigured : s.sup.station = .unconfigured) {k index : Nat}
    (fails : s.store.startCheck s.bank.ownNumber = some (k, index)) :
    exec .start s = .next (s.answered 0x1F .badConfig (one k ++ one index)) := by
  refine congrArg Host.Outcome.next ((State.command_of_taken _ taken).trans ((if_pos unconfigured).trans ?_))
  rw [State.endTransaction_store, State.endTransaction_bank, fails]
  exact State.reply_endTransaction taken.2.2 _ _

/-- Settles O11: the checks of R160 in their order, each with the lowest index at which it fails. -/
theorem startNamesTheFirstFailingCheck : Obligations.StartNamesTheFirstFailingCheck := by
  intro s taken unconfigured c own inUse badSpan badBand overlap
  have refused := fun {k index : Nat} => exec_start_of_failing (k := k) (index := index) taken unconfigured
  have spans : (∀ z, ¬ badSpan z) → ∀ z, c.badSpan z = false := fun sound z =>
    Bool.eq_false_iff.2 (mt (Store.badSpan_iff z).1 (sound z))
  have bands : (∀ i, ¬ badBand i) → ∀ i, c.badBand i = false := fun sound i =>
    Bool.eq_false_iff.2 (mt (Store.badBand_iff i).1 (sound i))
  refine ⟨fun absent => refused (Store.startCheck_of_no_station absent),
    fun positive above => refused (Store.startCheck_of_own_above positive above),
    fun counted few => refused (Store.startCheck_of_few_zones counted few),
    fun z counted enough bad least => refused (Store.startCheck_of_badSpan counted enough ((Store.badSpan_iff z).2 bad) ?_),
    fun i counted enough sound bad least =>
      refused (Store.startCheck_of_badBand counted enough (spans sound) ((Store.badBand_iff i).2 bad) ?_),
    fun i j counted enough sound present below meets least =>
      refused (Store.startCheck_of_overlap counted enough (spans sound) (bands present)
        ((Store.overlapsLower_iff i).2 ⟨j, below, meets⟩) ?_)⟩
  · exact fun w lower => Bool.eq_false_iff.2 (mt (Store.badSpan_iff w).1 (least w lower))
  · exact fun j lower => Bool.eq_false_iff.2 (mt (Store.badBand_iff j).1 (least j lower))
  · intro k lower
    refine Bool.eq_false_iff.2 fun meets => ?_
    obtain ⟨l, below, overlaps⟩ := (Store.overlapsLower_iff k).1 meets
    exact least k l below lower overlaps

/-! ### HALT (R163) -/

section
variable {s : State}

theorem State.halt_of_halted (halted : s.sup.station = .halted) :
    s.halt = { s with host := { s.host with reasons := s.host.reasons ||| 0x0001 } } := if_pos halted

theorem State.halt_of_not_halted (running : s.sup.station ≠ .halted) : s.halt = { s with
    sup := { s.sup with station := .halted }
    host := { s.host with reasons := s.host.reasons ||| 0x0001 }
    loader := s.loader.addCause s.gas.established .halt } := if_neg running

end

/-! ### The start of every block (R161) -/

/-- What each block makes of START, before the HALT line is looked at. -/
def State.joined (s : State) : State :=
  let k := s.store.bank
  { s with
    sup := { s.sup with station := .joining, joiningCount := 0 }
    timer := ⟨.listening, .present, 0, 0, none, 0, PerEight.all none, none, PerEight.all none, false, false⟩
    bank := ⟨s.bank.ownNumber,
      (k.powerLimit / 256 + k.powerLimit % 256 + k.headerCapacity + k.stationCount + k.mainsCode) % 256,
      s.bank.record, none, s.bank.peers, 0, false, s.bank.duplicateHold⟩
    scanner := { s.scanner with fpAcc := ⟨0, 0⟩, fcAcc := ⟨0, 0⟩ }
    gas := { s.gas with established := s.gas.established || decide (s.store.gas.curtainMin = 0) } }

theorem State.begin_eq (s : State) : s.begin = if s.sup.haltAsserted = true then s.joined.halt else s.joined := rfl

/-- START of a store that passes every check (R161). -/
theorem exec_start_of_passing {s : State} (taken : s.Taken 0x1F) (unconfigured : s.sup.station = .unconfigured)
    (passes : s.store.startCheck s.bank.ownNumber = none) : exec .start s = .next (s.begin.answered 0x1F .ok []) := by
  have ends : s.endTransaction.begin = s.begin.endTransaction := by
    rw [State.begin_eq, State.begin_eq, apply_ite State.endTransaction]
    rfl
  have buffer : s.begin.host.buffer = s.host.buffer := by
    rw [State.begin_eq]
    split <;> rfl
  refine congrArg Host.Outcome.next ((State.command_of_taken _ taken).trans ((if_pos unconfigured).trans ?_))
  rw [State.endTransaction_store, State.endTransaction_bank, passes, ends]
  exact State.reply_endTransaction (buffer ▸ taken.2.2) _ _

/-- Settles O12: with every check passed, the blocks' starts and, where the line is asserted, the halt of the station that is then
JOINING. -/
theorem startMakesEveryBlockStart : Obligations.StartMakesEveryBlockStart := by
  intro s taken unconfigured counted enough spans bands apart k t
  have sound : ∀ z, s.store.badSpan z = false := fun z => Bool.eq_false_iff.2 fun bad => by
    obtain ⟨inUse, ends⟩ := (Store.badSpan_iff z).1 bad
    exact absurd (spans z inUse) (not_lt.2 ends)
  have present : ∀ i, s.store.badBand i = false := fun i => Bool.eq_false_iff.2 fun bad => by
    obtain ⟨b, entry, ends⟩ := (Store.badBand_iff i).1 bad
    exact absurd (bands i b entry) (not_lt.2 ends)
  have separate : ∀ i, s.store.overlapsLower i = false := fun i => Bool.eq_false_iff.2 fun meets => by
    obtain ⟨j, below, a, b, upper, lower, overlap⟩ := (Store.overlapsLower_iff i).1 meets
    exact apart i j a b below.ne' upper lower overlap
  rw [exec_start_of_passing taken unconfigured (Store.startCheck_of_sound counted enough sound present separate), State.begin_eq]
  refine ⟨fun released => by rw [if_neg (by simp [released])]; rfl, fun asserted rest => ?_⟩
  have loader : s.loader.addCause t.gas.established .halt = { s.loader with causes := { s.loader.causes with halt := true } } :=
    Loader.addCause_of_idle _ .halt (by simp [rest]) (by simp [rest]) (by simp [rest])
  rw [if_pos asserted, State.halt_of_not_halted (show StationState.joining ≠ .halted by decide), ← loader]
  rfl

end Sys2Proof.Machine
end

section
/-! PROOFS. The statements about the HALT line, RESTART, hard reset, and the invariants of the part right after hard reset (R163,
R166). -/

namespace Sys2Proof.Machine

/-! ### The HALT line (R163) -/

section
variable {s : State} (released : s.sup.haltAsserted = false)
include released

theorem exec_haltAssert_of_unconfigured (unconfigured : s.sup.station = .unconfigured) :
    exec .haltAssert s = .next { s with sup := { s.sup with haltAsserted := true } } :=
  congrArg Host.Outcome.next ((if_neg (by simp [released])).trans (if_pos unconfigured))

/-- Outside UNCONFIGURED an assertion halts the station with the line's new level. -/
theorem exec_haltAssert_of_configured (configured : s.sup.station ≠ .unconfigured) :
    exec .haltAssert s = .next ({ s with sup := { s.sup with haltAsserted := true } } : State).halt :=
  congrArg Host.Outcome.next ((if_neg (by simp [released])).trans (if_neg configured))

theorem exec_haltAssert_of_halted (halted : s.sup.station = .halted) :
    exec .haltAssert s = .next { s with
      sup := { s.sup with haltAsserted := true }
      host := { s.host with reasons := s.host.reasons ||| 0x0001 } } :=
  (exec_haltAssert_of_configured released (by simp [halted])).trans (congrArg Host.Outcome.next (State.halt_of_halted halted))

theorem exec_haltAssert_of_running (configured : s.sup.station ≠ .unconfigured) (running : s.sup.station ≠ .halted) :
    exec .haltAssert s = .next { s with
      sup := { s.sup with haltAsserted := true, station := .halted }
      host := { s.host with reasons := s.host.reasons ||| 0x0001 }
      loader := s.loader.addCause s.gas.established .halt } :=
  (exec_haltAssert_of_configured released configured).trans (congrArg Host.Outcome.next (State.halt_of_not_halted running))

end

/-- Settles O51: the assertion by station state, and the loader under the new stop cause by its own. -/
theorem haltStopsTheStation : Obligations.HaltStopsTheStation := by
  refine ⟨fun s released => ⟨exec_haltAssert_of_unconfigured released, exec_haltAssert_of_halted released,
      exec_haltAssert_of_running released, fun configured running free => ?_⟩,
    fun s asserted => congrArg Host.Outcome.next (if_pos asserted), fun s => rfl⟩
  intro l noted after
  have taken : ∀ {x : Loader}, l.addCause s.gas.established .halt = x → after x := fun {x} eq =>
    eq ▸ exec_haltAssert_of_running released configured running
  refine ⟨fun state speed => taken (Loader.addCause_of_running _ free state speed),
    fun state => taken (Loader.addCause_of_waiting _ free state), fun state => taken (Loader.addCause_of_idle _ _ ?_ ?_ ?_)⟩
  all_goals rcases state with state | state | state | state <;> simp [state]

/-! ### RESTART and hard reset (R166) -/

/-- RESTART leaves the buffer, and so the code that its reply echoes. -/
theorem exec_restart {s : State} (taken : s.Taken 0x5E) : exec .restart s = .next (s.restart.answered 0x5E .ok []) := by
  refine congrArg Host.Outcome.next ((State.command_of_taken _ taken).trans ?_)
  have ends : s.endTransaction.restart = s.restart.endTransaction := rfl
  rw [ends]
  exact State.reply_endTransaction (s := s.restart) taken.2.2 _ _

/-- Settles O18: the answer of RESTART is that of the restarted blocks, each as its reset values are defined. -/
theorem restartReturnsTheUnconfiguredValues : Obligations.RestartReturnsTheUnconfiguredValues := fun _ taken => exec_restart taken

/-- A hard reset neither begins nor ends a transaction of the host (R169). -/
theorem TransactionState.afterHardReset_idle (t : TransactionState) : t.afterHardReset = .idle ↔ t = .idle := by
  cases t <;> decide

theorem TransactionState.afterHardReset_of_under_way {t : TransactionState} (underWay : t ≠ .idle) :
    t.afterHardReset = .discarding := by
  cases t with
  | idle => exact absurd rfl underWay
  | receiving => rfl
  | discarding => rfl

/-- Settles O19: each block as its reset values are defined, and the transaction by whether one is under way. -/
theorem hardResetReturnsEveryBlock : Obligations.HardResetReturnsEveryBlock := fun s straps =>
  ⟨s.hardReset straps, rfl, rfl, rfl, rfl, rfl, rfl, rfl, rfl, rfl, rfl, rfl, rfl, rfl, rfl,
    TransactionState.afterHardReset_idle s.host.transaction, TransactionState.afterHardReset_of_under_way⟩

/-! ### The part right after hard reset -/

theorem State.reset_timerInv : State.reset.TimerInv := ⟨fun _ => rfl, fun _ => rfl⟩

theorem State.reset_hostInv : State.reset.HostInv := by
  unfold State.HostInv
  decide

/-- An empty queue has no ids to be consecutive. -/
theorem State.reset_queueInv : State.reset.QueueInv :=
  ⟨Nat.zero_le _, Nat.zero_le _, by decide, fun _ mem => absurd mem List.not_mem_nil, trivial⟩

theorem State.reset_loaderInv : State.reset.LoaderInv :=
  State.loaderInv_of_bare State.reset_timerInv (Nat.le_refl 1) ⟨⟨rfl, rfl, rfl⟩, rfl⟩ rfl

/-- No peer is present. -/
theorem State.reset_bankInv : State.reset.BankInv :=
  (State.bankInv_iff _).2 ⟨State.reset_timerInv, {
    unsent := Nat.zero_le 3
    duplicateHold := Nat.zero_le 10
    solo := by decide
    peers := fun i present => absurd (congrArg PeerEntry.presence (PerEight.get_all PeerEntry.reset i)) present
    ownNumber := fun configured => absurd rfl configured }⟩

theorem State.reset_causeInv : State.reset.CauseInv := (State.causeInv_iff _).2 ⟨State.reset_timerInv, rfl⟩

theorem State.reset_motionInv : State.reset.MotionInv := fun state => absurd state (by decide)

/-- UNCONFIGURED, the station closes no contactor, and no zone fires (R72, R73). -/
theorem State.reset_heats_nothing (z : ZoneId) :
    State.reset.contactorClosed z = false ∧ (State.reset.zones.zones.get z).gate = false :=
  ⟨rfl, congrArg ZoneState.gate (PerZone.get_all ZoneState.reset z)⟩

/-- Settles O52: each invariant at the reset values, and the outputs. -/
theorem resetMeetsTheInvariants : Obligations.ResetMeetsTheInvariants :=
  ⟨State.reset_timerInv, State.reset_hostInv, State.reset_queueInv, State.reset_loaderInv,
    State.rampInv_of_reset State.reset_timerInv rfl, State.firingInv_of_reset State.reset_timerInv rfl, State.reset_bankInv,
    State.reset_causeInv, State.reset_motionInv, .of_rest (.inl rfl) rfl, rfl, State.reset_heats_nothing, rfl, rfl, rfl,
    by decide⟩

end Sys2Proof.Machine
end

section
/-! PROOFS. The statement about transactions: their beginning, their bytes, the releases that take no command, and the answers of NOP
and of a code that names no command (R168 to R171). -/

namespace Sys2Proof.Machine

/-! ### The beginning and the end of a transaction (R168, R169) -/

theorem State.beginTransaction_of_idle {s : State} (idle : s.host.transaction = .idle) :
    s.beginTransaction = s.setHost { s.host with transaction := .receiving, byteCount := 0 } := if_pos idle

theorem exec_chipSelectReleaseDiscarding_of_discarding {s : State} (discarding : s.host.transaction = .discarding) :
    exec .chipSelectReleaseDiscarding s = .next s.endTransaction := congrArg Host.Outcome.next (if_pos discarding)

theorem exec_frameError_of_receiving {s : State} (receiving : s.host.transaction = .receiving)
    (count : s.host.byteCount ≠ 32) : exec .frameError s = .next s.discard :=
  congrArg Host.Outcome.next (if_pos ⟨receiving, count⟩)

/-- A discarded transaction is answered, with the first byte received in the place of a code. -/
theorem State.discard_eq_answered (s : State) : s.discard =
    s.answered (if s.host.byteCount = 0 then 0 else s.host.buffer.getD 0 0) .frameError [BitVec.ofNat 8 s.host.byteCount] := rfl

/-! ### The bytes of a transaction (R168, R169) -/

theorem State.clockByte_of_idle {s : State} (b : Byte) (idle : s.host.transaction = .idle) : s.clockByte b = s := by
  unfold State.clockByte
  rw [idle]

theorem State.clockByte_of_receiving {s : State} (b : Byte) (receiving : s.host.transaction = .receiving) :
    s.clockByte b = s.setHost { s.host with
      byteCount := satAdd1 255 s.host.byteCount
      buffer := if s.host.byteCount < 32 then s.host.buffer.set s.host.byteCount b else s.host.buffer
      dataOut := some (s.host.reply.byteOut (s.host.byteCount + 1)) } := by
  unfold State.clockByte
  rw [receiving]
  rfl

theorem State.clockByte_of_discarding {s : State} (b : Byte) (discarding : s.host.transaction = .discarding) :
    s.clockByte b = (s.setHost { s.host with dataOut := some (Config.discardedOut s.freeIndex) }).setFreeIndex
      (s.freeIndex + 1) := by
  unfold State.clockByte
  rw [discarding]

/-- The byte of a reply that follows the first n ones: the five bytes before the data field, then those of it (R170, R177). -/
theorem Reply.byteOut_succ (r : Reply) (n : Nat) : r.byteOut (n + 1) = if n < 32 then
    ([BitVec.ofNat 8 r.result.code, r.command, BitVec.ofNat 8 r.station.code, BitVec.ofNat 8 (r.reasons.toNat / 256),
      BitVec.ofNat 8 r.reasons.toNat] ++ r.data).getD n 0 else 0 := rfl

/-! ### The answers of NOP and of an unknown code (R170, R171) -/

theorem State.complete_of_taken {s : State} {code : Byte} (taken : s.Taken code) : s.complete = true := by
  simp [State.complete, taken.1, taken.2.1]

theorem exec_nop {s : State} (taken : s.Taken 0x01) : exec .nop s = .next (s.answered 0x01 .ok []) :=
  congrArg Host.Outcome.next ((State.command_of_taken _ taken).trans (State.reply_endTransaction taken.2.2 _ _))

theorem exec_unknownCommand {s : State} {code : Byte} (taken : s.Taken code) (unknown : code ∉ commandCodes) :
    exec .unknownCommand s = .next (s.answered code .unknown []) := by
  have uncovered : commandCodes.contains (s.host.buffer.getD 0 0) = false := by
    rw [taken.2.2]
    exact Bool.eq_false_iff.2 (mt List.contains_iff_mem.1 unknown)
  exact congrArg Host.Outcome.next
    ((if_pos ⟨State.complete_of_taken taken, uncovered⟩).trans (State.reply_endTransaction taken.2.2 _ _))

/-- Settles O3: each row by the transaction state that it finds. -/
theorem transactionsCarryBytesAndReplies : Obligations.TransactionsCarryBytesAndReplies := by
  refine ⟨⟨⟨fun s idle => ?_, fun s discarding => exec_chipSelectReleaseDiscarding_of_discarding discarding,
      fun s receiving count => ?_⟩, fun s taken => exec_nop taken, fun s code taken unknown => exec_unknownCommand taken unknown⟩,
    fun s b receiving => ?_, fun s b idle => ?_, fun s b discarding => ⟨Config.discardedOut s.freeIndex, ?_⟩⟩
  · exact congrArg Host.Outcome.next (State.beginTransaction_of_idle idle)
  · rw [exec_frameError_of_receiving receiving count, State.discard_eq_answered]
  · rw [← satAdd1_eq, ← Reply.byteOut_succ]
    exact congrArg Host.Outcome.next (State.clockByte_of_receiving b receiving)
  · exact congrArg Host.Outcome.next (State.clockByte_of_idle b idle)
  · exact congrArg Host.Outcome.next (State.clockByte_of_discarding b discarding)

end Sys2Proof.Machine
end

section
/-! PROOFS. The statements about READ_STATUS, READ_ZONE and READ_LOADER: the page that each answers with, and its bytes (R172,
R177). -/

namespace Sys2Proof.Machine

/-! ### READ_STATUS -/

theorem exec_readStatus {s : State} (taken : s.Taken 0x30) :
    exec .readStatus s = .next (s.answered 0x30 .ok (s.statusPage (byteAt s.host.buffer 2))) :=
  congrArg Host.Outcome.next ((State.command_of_taken _ taken).trans (State.reply_endTransaction taken.2.2 _ _))

/-- Pages above the last are 0 (R177). -/
theorem State.statusPage_above (s : State) {page : Nat} (above : 5 < page) : s.statusPage page = [] := by
  unfold State.statusPage
  split
  case h_7 => rfl
  all_goals omega

/-- Settles O5: the seven branches of the page number. -/
theorem readStatusReturnsItsPages : Obligations.ReadStatusReturnsItsPages := by
  intro s taken
  refine ⟨_, exec_readStatus taken, fun page => ?_, fun page => ?_, fun page => ?_, fun page => ?_, fun page => ?_,
    fun page => ?_, fun above => s.statusPage_above above⟩ <;> rw [page]
  · simp only [State.statusPage, State.statusPage0, BankFigures.bytes, List.append_assoc]
  · simp only [State.statusPage, State.statusPage1]
  · simp only [State.statusPage, State.statusPage2, Reading.bytes]
  · simp only [State.statusPage, State.statusPage3, HoldCauses.code]
  · simp only [State.statusPage, State.statusPage4, Commanded.bytes]
  · simp only [State.statusPage, State.statusPage5]

/-! ### READ_ZONE -/

theorem exec_readZone {s : State} {z : ZoneId} (taken : s.Taken 0x31) (index : byteAt s.host.buffer 2 = z.index) :
    exec .readZone s = .next (s.answered 0x31 .ok (s.zonePage z (byteAt s.host.buffer 3))) := by
  refine congrArg Host.Outcome.next ((State.command_of_taken _ taken).trans ?_)
  rw [State.endTransaction_buffer, index, ZoneId.ofIndex_index]
  exact State.reply_endTransaction taken.2.2 _ _

/-- Pages above the last are 0 (R177). -/
theorem State.zonePage_above (s : State) (z : ZoneId) {page : Nat} (above : 2 < page) : s.zonePage z page = [] := by
  unfold State.zonePage
  split
  case h_4 => rfl
  all_goals omega

/-! ### READ_LOADER -/

theorem exec_readLoader {s : State} (taken : s.Taken 0x32) :
    exec .readLoader s = .next (s.answered 0x32 .ok (s.loaderPage (byteAt s.host.buffer 2))) :=
  congrArg Host.Outcome.next ((State.command_of_taken _ taken).trans (State.reply_endTransaction taken.2.2 _ _))

/-- Pages above the last are 0 (R177). -/
theorem State.loaderPage_above (s : State) {page : Nat} (above : 2 < page) : s.loaderPage page = [] := by
  unfold State.loaderPage
  split
  case h_4 => rfl
  all_goals omega

/-- Four entries of the band table stand one after the other. -/
theorem State.bandsBytes_four (s : State) (i j k l : Fin 8) : s.bandsBytes [i, j, k, l] =
    bandBytes (s.store.bands.get i) ++ bandBytes (s.store.bands.get j) ++ bandBytes (s.store.bands.get k)
      ++ bandBytes (s.store.bands.get l) := by
  simp [State.bandsBytes]

/-- Settles O6: the branches of both page numbers; the approach record and a band are there or absent. -/
theorem readZoneAndLoaderReturnTheirPages : Obligations.ReadZoneAndLoaderReturnTheirPages := by
  refine ⟨fun s z taken index => ⟨_, exec_readZone taken index, fun page => ?_, fun page => ?_, fun page => ?_,
      fun above => s.zonePage_above z above⟩,
    fun s taken => ⟨_, exec_readLoader taken, fun page => ?_, ?_, fun above => s.loaderPage_above above⟩⟩
  · rw [page]
    simp only [State.zonePage, ZoneConfig.bytes]
  · rw [page]
    simp only [State.zonePage, State.zonePage1]
  · rw [page]
    simp only [State.zonePage, State.zonePage2]
  · rw [page]
    simp only [State.loaderPage, State.loaderPage0, StopCauses.code, BoatPart.bytes, List.append_assoc]
    cases s.loader.approach <;> rfl
  · intro band
    have entry : ∀ i, bandBytes (s.store.bands.get i) = band i := fun i => by
      dsimp only [band]
      cases s.store.bands.get i <;> rfl
    refine ⟨fun page => ?_, fun page => ?_⟩
    · rw [page]
      simp only [State.loaderPage, LoaderConfig.bytes, State.bandsBytes_four, entry]
    · rw [page]
      simp only [State.loaderPage, State.bandsBytes_four, entry]

end Sys2Proof.Machine
end

section
/-! PROOFS. The statement about refused commands (R159, R160, R171). -/

namespace Sys2Proof.Machine

/-- A command whose act refuses is answered with the refusal's code, and nothing but the reply changes. -/
theorem State.command_refuses {s : State} {code : Byte} {r : ResultCode} {act : State → State} (taken : s.Taken code)
    (refuses : act s.endTransaction = s.endTransaction.refuse r) : s.command code act = s.answered code r [] :=
  (State.command_of_taken _ taken).trans (refuses.trans (State.reply_endTransaction taken.2.2 _ _))

/-! ### Objects that do not exist (R171) -/

/-- The indices up to 4 name a zone. -/
theorem ZoneId.exists_index_eq {n : Nat} (within : n ≤ 4) : ∃ z : ZoneId, n = z.index :=
  match n, within with
  | 0, _ => ⟨.z1, rfl⟩
  | 1, _ => ⟨.z2, rfl⟩
  | 2, _ => ⟨.z3, rfl⟩
  | 3, _ => ⟨.z4, rfl⟩
  | 4, _ => ⟨.z5, rfl⟩

theorem urgentKind_none {n : Nat} (unknown : n = 0 ∨ 4 < n) : urgentKind? n = none := by
  unfold urgentKind?
  split
  case h_5 => rfl
  all_goals omega

section
variable {s : State}

theorem exec_setZone_of_no_zone (taken : s.Taken 0x11) (above : 4 < byteAt s.host.buffer 2) :
    exec .setZone s = .next (s.answered 0x11 .badValue []) := by
  refine congrArg Host.Outcome.next (State.command_refuses taken ?_)
  simp only [State.endTransaction_buffer, ZoneId.ofIndex_none above]

theorem exec_setBand_of_no_band (taken : s.Taken 0x14) (above : 7 < byteAt s.host.buffer 2) :
    exec .setBand s = .next (s.answered 0x14 .badValue []) :=
  congrArg Host.Outcome.next (State.command_refuses taken (if_pos above))

theorem exec_readZone_of_no_zone (taken : s.Taken 0x31) (above : 4 < byteAt s.host.buffer 2) :
    exec .readZone s = .next (s.answered 0x31 .badValue []) := by
  refine congrArg Host.Outcome.next (State.command_refuses taken ?_)
  simp only [State.endTransaction_buffer, ZoneId.ofIndex_none above]

theorem exec_readPeer_of_no_station (taken : s.Taken 0x33) (above : 7 < byteAt s.host.buffer 2) :
    exec .readPeer s = .next (s.answered 0x33 .badValue []) :=
  congrArg Host.Outcome.next (State.command_refuses taken (if_pos above))

theorem exec_resetTrip_of_no_zone (taken : s.Taken 0x50) (above : 4 < byteAt s.host.buffer 2) :
    exec .resetTrip s = .next (s.answered 0x50 .badValue []) := by
  refine congrArg Host.Outcome.next (State.command_refuses taken ?_)
  simp only [State.endTransaction_buffer, ZoneId.ofIndex_none above]

theorem exec_urgent_of_no_kind (taken : s.Taken 0x22) (unknown : byteAt s.host.buffer 2 = 0 ∨ 4 < byteAt s.host.buffer 2) :
    exec .urgent s = .next (s.answered 0x22 .badValue []) := by
  refine congrArg Host.Outcome.next (State.command_refuses taken ?_)
  simp only [State.endTransaction_buffer, urgentKind_none unknown]

/-! ### Commands of UNCONFIGURED alone (R159, R160) -/

variable (configured : s.sup.station ≠ .unconfigured)
include configured

/-- A configuration command that comes outside UNCONFIGURED is refused, whatever it would store. -/
theorem State.configure_of_configured (r : ResultCode) (c : Store) (echo : List Byte) :
    s.endTransaction.configure r c echo = s.endTransaction.refuse .badState := if_neg configured

theorem exec_setBank_of_configured (taken : s.Taken 0x10) : exec .setBank s = .next (s.answered 0x10 .badState []) :=
  congrArg Host.Outcome.next (State.command_refuses taken (State.configure_of_configured configured _ _ _))

theorem exec_setZone_of_configured (taken : s.Taken 0x11) (within : byteAt s.host.buffer 2 ≤ 4) :
    exec .setZone s = .next (s.answered 0x11 .badState []) := by
  obtain ⟨z, index⟩ := ZoneId.exists_index_eq within
  refine congrArg Host.Outcome.next (State.command_refuses taken ?_)
  rw [State.endTransaction_buffer, index, ZoneId.ofIndex_index]
  exact State.configure_of_configured configured _ _ _

theorem exec_setGas_of_configured (taken : s.Taken 0x12) : exec .setGas s = .next (s.answered 0x12 .badState []) :=
  congrArg Host.Outcome.next (State.command_refuses taken (State.configure_of_configured configured _ _ _))

theorem exec_setLoader_of_configured (taken : s.Taken 0x13) : exec .setLoader s = .next (s.answered 0x13 .badState []) :=
  congrArg Host.Outcome.next (State.command_refuses taken (State.configure_of_configured configured _ _ _))

theorem exec_setBand_of_configured (taken : s.Taken 0x14) (within : byteAt s.host.buffer 2 ≤ 7) :
    exec .setBand s = .next (s.answered 0x14 .badState []) :=
  congrArg Host.Outcome.next (State.command_refuses taken
    ((if_neg (not_lt.2 within)).trans (State.configure_of_configured configured _ _ _)))

theorem exec_start_of_configured (taken : s.Taken 0x1F) : exec .start s = .next (s.answered 0x1F .badState []) :=
  congrArg Host.Outcome.next (State.command_refuses taken (if_neg configured))

end

/-- Settles O10: the commands of UNCONFIGURED alone, and the objects that do not exist. -/
theorem refusedCommandsChangeNothing : Obligations.RefusedCommandsChangeNothing :=
  ⟨fun _ configured => ⟨exec_setBank_of_configured configured, exec_setZone_of_configured configured,
      exec_setGas_of_configured configured, exec_setLoader_of_configured configured, exec_setBand_of_configured configured,
      exec_start_of_configured configured⟩,
    fun _ => ⟨exec_setZone_of_no_zone, exec_setBand_of_no_band, exec_readZone_of_no_zone, exec_readPeer_of_no_station,
      exec_resetTrip_of_no_zone, exec_urgent_of_no_kind⟩⟩

end Sys2Proof.Machine
end

section
/-! PROOFS. The statement about CLEAR_REASONS, SET_MASK and the ATTN line (R174 to R176). -/

namespace Sys2Proof.Machine

/-- A host port that a command has written replies with what it then holds. -/
theorem State.reply_setHost {s : State} {h : HostPort} {code : Byte} (echo : h.buffer.getD 0 0 = code) (r : ResultCode)
    (data : List Byte) : (s.setHost { h with transaction := .idle, dataOut := none }).reply r data
      = { s with host := h.answered code r s.sup.station data } := by
  subst echo
  rfl

/-- CLEAR_REASONS answers with the set after it (R174). -/
theorem exec_clearReasons {s : State} (taken : s.Taken 0x40) : exec .clearReasons s = .next { s with
    host := ({ s.host with reasons := s.host.reasons &&& ~~~selectionOf s.host.buffer } : HostPort).answered 0x40 .ok
      s.sup.station [] } :=
  congrArg Host.Outcome.next ((State.command_of_taken _ taken).trans (State.reply_setHost
    (h := { s.host with reasons := s.host.reasons &&& ~~~selectionOf s.host.buffer }) taken.2.2 _ _))

/-- SET_MASK echoes the mask as stored (R175). -/
theorem exec_setMask {s : State} (taken : s.Taken 0x41) {mask : BitVec 16}
    (stored : selectionOf s.host.buffer &&& maskableReasons = mask) : exec .setMask s = .next { s with
      host := ({ s.host with mask := mask } : HostPort).answered 0x41 .ok s.sup.station (two mask.toNat) } := by
  subst stored
  exact congrArg Host.Outcome.next ((State.command_of_taken _ taken).trans (State.reply_setHost
    (h := { s.host with mask := selectionOf s.host.buffer &&& maskableReasons }) taken.2.2 _ _))

/-- The counterpart of the library's `BitVec.and_or_distrib_left`. -/
theorem word_or_and_distrib_left {w : Nat} (x y z : BitVec w) : x ||| (y &&& z) = (x ||| y) &&& (x ||| z) :=
  BitVec.eq_of_getElem_eq (by simp [Bool.or_and_distrib_left])

/-- What a mask does not hold back: the unmaskable reasons, and the maskable ones outside it (R175). -/
theorem not_and_maskableReasons (mask : BitVec 16) : ~~~(mask &&& maskableReasons) = 0x000F ||| (0xFFF0 &&& ~~~mask) :=
  calc ~~~(mask &&& maskableReasons)
    _ = 0x000F ||| ~~~mask := by rw [BitVec.not_and, BitVec.or_comm]; rfl
    _ = (0x000F ||| 0xFFF0) &&& (0x000F ||| ~~~mask) := BitVec.allOnes_and.symm
    _ = 0x000F ||| (0xFFF0 &&& ~~~mask) := (word_or_and_distrib_left _ _ _).symm

/-- The reasons that assert ATTN, in their two parts (R176). -/
theorem HostPort.attn_iff (h : HostPort) :
    h.attn = true ↔ h.reasons &&& 0x000F ≠ 0 ∨ h.reasons &&& 0xFFF0 &&& ~~~h.mask ≠ 0 := by
  have parts : h.reasons &&& ~~~(h.mask &&& maskableReasons)
      = h.reasons &&& 0x000F ||| h.reasons &&& 0xFFF0 &&& ~~~h.mask := by
    rw [not_and_maskableReasons, BitVec.and_or_distrib_left, BitVec.and_assoc]
  rw [HostPort.attn, decide_eq_true_eq, parts, ← not_and_or]
  exact not_congr BitVec.or_eq_zero_iff

/-- Settles O16: the two commands, and the two parts of the ATTN condition. -/
theorem reasonsMaskAndAttn : Obligations.ReasonsMaskAndAttn :=
  ⟨fun _ taken => exec_clearReasons taken, fun _ taken => exec_setMask taken rfl, fun s => s.host.attn_iff⟩

end Sys2Proof.Machine
end

section
/-! PROOFS. The two statements about the queue of commands: a step takes its front, and no command reaches it (log entries 1
and 18). -/

namespace Sys2Proof.Machine

/-! ### A step -/

theorem step_of_pending_cons {c : Instr} {rest : List Instr} {s : State} (front : s.pending = c :: rest) :
    step s = exec c { s with pending := rest } := by
  rw [step, front]
  rfl

theorem step_of_pending_nil {s : State} (empty : s.pending = []) : step s = .next s := by rw [step, empty]

/-- Settles O1: one clause for each form of the queue. -/
theorem stepRunsTheFrontCommand : Obligations.StepRunsTheFrontCommand :=
  ⟨fun _ _ _ => step_of_pending_cons, fun _ => step_of_pending_nil⟩

/-! ### What the host's commands leave -/

@[simp] theorem State.configure_pending (s : State) (r : ResultCode) (c : Store) (echo : List Byte) :
    (s.configure r c echo).pending = s.pending := by
  unfold State.configure
  split <;> rfl

@[simp] theorem State.halt_pending (s : State) : s.halt.pending = s.pending := by
  unfold State.halt
  dsimp only
  split <;> rfl

@[simp] theorem State.begin_pending (s : State) : s.begin.pending = s.pending := by
  rw [State.begin_eq, apply_ite State.pending, State.halt_pending, ite_self]
  rfl

/-! ### What transactions and mains leave -/

@[simp] theorem State.beginTransaction_pending (s : State) : s.beginTransaction.pending = s.pending := by
  unfold State.beginTransaction
  split <;> rfl

@[simp] theorem State.clockByte_pending (s : State) (b : Byte) : (s.clockByte b).pending = s.pending := by
  unfold State.clockByte
  split <;> rfl

/-- An edge is nothing, the return of the mains, or boundaries, which run on (R1, R7). -/
@[simp] theorem State.zeroCross_pending (s : State) (e : Nat) : (s.zeroCross e).pending = s.pending := by
  unfold State.zeroCross
  split
  · rfl
  split
  · dsimp only
    split
    · rfl
    · exact (State.boundary_runsOn _).pending
  · split
    · exact s.boundary_runsOn.pending
    split
    · rfl
    · exact (State.boundaries_runsOn _ s).pending

/-- MAINS_LOST counts three boundaries, and each runs on (R5). -/
@[simp] theorem State.loseMains_pending (s : State) : s.loseMains.pending = s.pending := by
  unfold State.loseMains
  split
  · exact (((State.boundaryWork_runsOn _).trans (State.boundaryWork_runsOn _)).trans (State.boundaryWork_runsOn _)).pending
  · rfl

/-! ### Every command -/

/-- Settles O2: a command of the host leaves the queue as its act does, and what the clock, the bank line and the plant bring
is work of a part that runs on. -/
theorem everyCommandLeavesTheQueue : Obligations.EveryCommandLeavesTheQueue := by
  intro c s
  cases c with
  | hardReset | transmitAttemptFail | leaveSent | burnoutTest | homeSwitchRelease | haltRelease => exact ⟨_, rfl, rfl⟩
  | nop | readStatus | readLoader | readQueue | readOutcome | clearReasons | setMask | setLowMark | restart =>
    exact ⟨_, rfl, State.command_pending fun _ => rfl⟩
  | setBank | setGas | setLoader => exact ⟨_, rfl, State.command_pending fun u => u.configure_pending _ _ _⟩
  | setZone | setBand =>
    refine ⟨_, rfl, State.command_pending fun u => ?_⟩
    split
    · rfl
    · exact u.configure_pending _ _ _
  | start =>
    refine ⟨_, rfl, State.command_pending fun u => ?_⟩
    split
    · split
      · rfl
      · exact u.begin_pending
    · rfl
  | append | amend | urgent | readZone | readPeer | clearHalt =>
    refine ⟨_, rfl, State.command_pending fun u => ?_⟩
    repeat' split
    all_goals rfl
  | resetTrip =>
    refine ⟨_, rfl, State.command_pending fun u => ?_⟩
    split
    · rfl
    · dsimp only
      repeat' split
      all_goals rfl
  | transactionBegin => exact ⟨_, rfl, s.beginTransaction_pending⟩
  | byteTime b => exact ⟨_, rfl, s.clockByte_pending b⟩
  | frameError | unknownCommand | chipSelectReleaseDiscarding | homeSwitchActivation =>
    refine ⟨_, rfl, ?_⟩
    split <;> rfl
  | zeroCrossEdge elapsed => exact ⟨_, rfl, s.zeroCross_pending elapsed⟩
  | mainsLost => exact ⟨_, rfl, s.loseMains_pending⟩
  | substituteBoundary => exact ⟨_, rfl, s.substitute_runsOn.pending⟩
  | listeningEnd | firstWindowStart | windowStart | ownSlot | sequencePosition | sharePosition | controlPosition =>
    exact ⟨_, rfl, (s.boundary_if_runsOn _).pending⟩
  | announceSent => exact ⟨_, rfl, (execAnnounceSent_runsOn rfl).pending⟩
  | announceArrival frame | leaveArrival frame => exact ⟨_, rfl, (s.frameArrives_runsOn frame).pending⟩
  | conversionComplete measured => exact ⟨_, rfl, (s.conversionComplete_runsOn measured).pending⟩
  | motionTick => exact ⟨_, rfl, s.motionTick_runsOn.pending⟩
  | speedUpdate => exact ⟨_, rfl, (execSpeedUpdate_runsOn rfl).pending⟩
  | haltAssert => exact ⟨_, rfl, (execHaltAssert_runsOn rfl).pending⟩

end Sys2Proof.Machine
end
